-- ==== Sys2Proof/Word.lean ====
section
/-! DEFINITION. The word types of the block (spec/00_scope.md R6, R8, spec/10_state.md R23): 32-bit words, 8-bit bytes, and
the cause word, whose width is the parameter XLEN. -/

namespace Sys2Proof

/-- A 32-bit word (R8: "A word is 32 bits"). -/
abbrev Word := BitVec 32

/-- One byte of the message or of the transmit FIFO (R40, R74). -/
abbrev Byte := BitVec 8

/-- A cause word. Its width is the parameter `XLEN` of R6 (`Params.xlen`, 32 by default), which a type of fixed width
cannot follow, so it is held as its unsigned value, below 2^XLEN (R8, R91; assumption log 21). -/
abbrev CauseWord := Nat

end Sys2Proof
end

