-- ==== Sys2Proof/Syntax.lean ====
section
/-! DEFINITION. The syntax of everything the block can be asked to do: source ids, transactions (R90), the 60 primitive
operations of spec/opcode_table.json (`Instr`), the foreground commands (R109, R110) and the events of the agents (R10). -/

namespace Sys2Proof

/-- An InterruptSource 1..52 (R14, R96), held as its index 0..51; `Src.id` is the number the spec uses. -/
abbrev Src := Fin 52

/-- The source id 1..52 of R96. -/
def Src.id (s : Src) : Nat := s.val + 1

/-- A table with one entry per source (R32 to R34, R37, R46). -/
abbrev Table (α : Type) := Vector α 52

/-- Direction of a transaction (R94, R95). -/
inductive Dir where
  | R
  | W
deriving DecidableEq, Repr, Inhabited

/-- A primitive transaction as it is handed to the block (R90, R91, R94, R95): a cause word, a register-space access
with its width in bytes (R63), or a control-register access. `data` is ignored by a read. -/
inductive Tx where
  | cause (w : CauseWord)
  | mmio (dir : Dir) (addr : Word) (width : Nat) (data : Word)
  | csr (dir : Dir) (n : BitVec 12) (data : Word)
deriving DecidableEq, Repr, Inhabited

/-- The modelled registers of the register space (20_memory.md R64). `priority s` is the array entry that address bits
[7:2] = `s` select (R94); only 1..52 exist. -/
inductive Register where
  | priority (s : BitVec 6)
  | pending0
  | pending1
  | enable0
  | enable1
  | threshold
  | claim
  | txdata
  | txctrl
  | uartIe
  | uartIp
deriving DecidableEq, Repr, Inhabited

/-- The core control registers the block reaches (R60, R95). -/
inductive Csr where
  | cause
  | tvec
  | status
  | ie
deriving DecidableEq, Repr, Inhabited

/-- Why a transaction is not one of the 60 operations; each is a refusal of the spec, named in `Machine.Refusal`. -/
inductive Reject where
  | badWidth
  | misaligned
  | unmapped
  | noCsrOperation
deriving DecidableEq, Repr, Inhabited

/-- The primitive operations: one constructor per row of spec/opcode_table.json (R111). A priority operation carries the
raw index `addr[7:2]`; `data` is the 32-bit word of a write. The cause words and masks below are those of XLEN = 32. -/
inductive Instr where
  /-- INT_RESERVED_0 (R122): format CAUSE, cause word 0x80000000 under mask 0x8000000F. -/
  | intReserved0
  /-- INT_RESERVED_1 (R123): format CAUSE, cause word 0x80000001 under mask 0x8000000F. -/
  | intReserved1
  /-- INT_RESERVED_2 (R124): format CAUSE, cause word 0x80000002 under mask 0x8000000F. -/
  | intReserved2
  /-- INT_SOFTWARE (R125): format CAUSE, cause word 0x80000003 under mask 0x8000000F. -/
  | intSoftware
  /-- INT_RESERVED_4 (R126): format CAUSE, cause word 0x80000004 under mask 0x8000000F. -/
  | intReserved4
  /-- INT_RESERVED_5 (R127): format CAUSE, cause word 0x80000005 under mask 0x8000000F. -/
  | intReserved5
  /-- INT_RESERVED_6 (R128): format CAUSE, cause word 0x80000006 under mask 0x8000000F. -/
  | intReserved6
  /-- INT_TIMER (R129): format CAUSE, cause word 0x80000007 under mask 0x8000000F. -/
  | intTimer
  /-- INT_RESERVED_8 (R130): format CAUSE, cause word 0x80000008 under mask 0x8000000F. -/
  | intReserved8
  /-- INT_RESERVED_9 (R131): format CAUSE, cause word 0x80000009 under mask 0x8000000F. -/
  | intReserved9
  /-- INT_RESERVED_10 (R132): format CAUSE, cause word 0x8000000A under mask 0x8000000F. -/
  | intReserved10
  /-- INT_EXTERNAL (R133): format CAUSE, cause word 0x8000000B under mask 0x8000000F. -/
  | intExternal
  /-- INT_RESERVED_12 (R134): format CAUSE, cause word 0x8000000C under mask 0x8000000F. -/
  | intReserved12
  /-- INT_RESERVED_13 (R135): format CAUSE, cause word 0x8000000D under mask 0x8000000F. -/
  | intReserved13
  /-- INT_RESERVED_14 (R136): format CAUSE, cause word 0x8000000E under mask 0x8000000F. -/
  | intReserved14
  /-- INT_RESERVED_15 (R137): format CAUSE, cause word 0x8000000F under mask 0x8000000F. -/
  | intReserved15
  /-- EXC_0 (R138): format CAUSE, cause word 0x00000000 under mask 0x8000000F. -/
  | exc0
  /-- EXC_1 (R139): format CAUSE, cause word 0x00000001 under mask 0x8000000F. -/
  | exc1
  /-- EXC_2 (R140): format CAUSE, cause word 0x00000002 under mask 0x8000000F. -/
  | exc2
  /-- EXC_3 (R141): format CAUSE, cause word 0x00000003 under mask 0x8000000F. -/
  | exc3
  /-- EXC_4 (R142): format CAUSE, cause word 0x00000004 under mask 0x8000000F. -/
  | exc4
  /-- EXC_5 (R143): format CAUSE, cause word 0x00000005 under mask 0x8000000F. -/
  | exc5
  /-- EXC_6 (R144): format CAUSE, cause word 0x00000006 under mask 0x8000000F. -/
  | exc6
  /-- EXC_7 (R145): format CAUSE, cause word 0x00000007 under mask 0x8000000F. -/
  | exc7
  /-- EXC_8 (R146): format CAUSE, cause word 0x00000008 under mask 0x8000000F. -/
  | exc8
  /-- EXC_9 (R147): format CAUSE, cause word 0x00000009 under mask 0x8000000F. -/
  | exc9
  /-- EXC_10 (R148): format CAUSE, cause word 0x0000000A under mask 0x8000000F. -/
  | exc10
  /-- EXC_11 (R149): format CAUSE, cause word 0x0000000B under mask 0x8000000F. -/
  | exc11
  /-- EXC_RESERVED_12 (R150): format CAUSE, cause word 0x0000000C under mask 0x8000000F. -/
  | excReserved12
  /-- EXC_RESERVED_13 (R151): format CAUSE, cause word 0x0000000D under mask 0x8000000F. -/
  | excReserved13
  /-- EXC_RESERVED_14 (R152): format CAUSE, cause word 0x0000000E under mask 0x8000000F. -/
  | excReserved14
  /-- EXC_RESERVED_15 (R153): format CAUSE, cause word 0x0000000F under mask 0x8000000F. -/
  | excReserved15
  /-- PLIC_PRIORITY_R (R171): format MMIO, read, address 0x0C000000 under mask 0xFFFFFF03. -/
  | plicPriorityR (s : BitVec 6)
  /-- PLIC_PRIORITY_W (R172): format MMIO, write, address 0x0C000000 under mask 0xFFFFFF03. -/
  | plicPriorityW (s : BitVec 6) (data : Word)
  /-- PLIC_PENDING0_R (R173): format MMIO, read, address 0x0C001000 under mask 0xFFFFFFFF. -/
  | plicPending0R
  /-- PLIC_PENDING1_R (R174): format MMIO, read, address 0x0C001004 under mask 0xFFFFFFFF. -/
  | plicPending1R
  /-- PLIC_PENDING0_W (R175): format MMIO, write, address 0x0C001000 under mask 0xFFFFFFFF. -/
  | plicPending0W (data : Word)
  /-- PLIC_PENDING1_W (R175): format MMIO, write, address 0x0C001004 under mask 0xFFFFFFFF. -/
  | plicPending1W (data : Word)
  /-- PLIC_ENABLE0_R (R183): format MMIO, read, address 0x0C002000 under mask 0xFFFFFFFF. -/
  | plicEnable0R
  /-- PLIC_ENABLE0_W (R184): format MMIO, write, address 0x0C002000 under mask 0xFFFFFFFF. -/
  | plicEnable0W (data : Word)
  /-- PLIC_ENABLE1_R (R185): format MMIO, read, address 0x0C002004 under mask 0xFFFFFFFF. -/
  | plicEnable1R
  /-- PLIC_ENABLE1_W (R186): format MMIO, write, address 0x0C002004 under mask 0xFFFFFFFF. -/
  | plicEnable1W (data : Word)
  /-- PLIC_THRESHOLD_R (R187): format MMIO, read, address 0x0C200000 under mask 0xFFFFFFFF. -/
  | plicThresholdR
  /-- PLIC_THRESHOLD_W (R188): format MMIO, write, address 0x0C200000 under mask 0xFFFFFFFF. -/
  | plicThresholdW (data : Word)
  /-- PLIC_CLAIM_R (R181): format MMIO, read, address 0x0C200004 under mask 0xFFFFFFFF. -/
  | plicClaimR
  /-- PLIC_COMPLETE_W (R182): format MMIO, write, address 0x0C200004 under mask 0xFFFFFFFF. -/
  | plicCompleteW (data : Word)
  /-- UART0_TXDATA_W (R233): format MMIO, write, address 0x10013000 under mask 0xFFFFFFFF. -/
  | uart0TxdataW (data : Word)
  /-- UART0_TXDATA_R (R234): format MMIO, read, address 0x10013000 under mask 0xFFFFFFFF. -/
  | uart0TxdataR
  /-- UART0_IP_R (R235): format MMIO, read, address 0x10013014 under mask 0xFFFFFFFF. -/
  | uart0IpR
  /-- UART0_IP_W (R235): format MMIO, write, address 0x10013014 under mask 0xFFFFFFFF. -/
  | uart0IpW (data : Word)
  /-- UART0_IE_R (R239): format MMIO, read, address 0x10013010 under mask 0xFFFFFFFF. -/
  | uart0IeR
  /-- UART0_IE_W (R240): format MMIO, write, address 0x10013010 under mask 0xFFFFFFFF. -/
  | uart0IeW (data : Word)
  /-- UART0_TXCTRL_R (R241): format MMIO, read, address 0x10013008 under mask 0xFFFFFFFF. -/
  | uart0TxctrlR
  /-- UART0_TXCTRL_W (R242): format MMIO, write, address 0x10013008 under mask 0xFFFFFFFF. -/
  | uart0TxctrlW (data : Word)
  /-- CSR_CAUSE_R (R280): format CSR, read, control-register number 0x342 under mask 0xFFF. -/
  | csrCauseR
  /-- CSR_TVEC_W (R271): format CSR, write, control-register number 0x305 under mask 0xFFF. -/
  | csrTvecW (data : Word)
  /-- CSR_STATUS_R (R276): format CSR, read, control-register number 0x300 under mask 0xFFF. -/
  | csrStatusR
  /-- CSR_STATUS_W (R277): format CSR, write, control-register number 0x300 under mask 0xFFF. -/
  | csrStatusW (data : Word)
  /-- CSR_IE_R (R278): format CSR, read, control-register number 0x304 under mask 0xFFF. -/
  | csrIeR
  /-- CSR_IE_W (R279): format CSR, write, control-register number 0x304 under mask 0xFFF. -/
  | csrIeW (data : Word)
deriving DecidableEq, Repr, Inhabited

/-- The names of the source enumeration (R14, R294). -/
inductive SourceName where
  | watchdog
  | rtc
  | uart0
  | uart1
  | gpio (pin : Fin 32)
  | pwm (unit : Fin 3) (channel : Fin 4)
  | i2c
deriving DecidableEq, Repr, Inhabited

/-- A `source` operand (R109): a number, a name of the enumeration, or "all" (R110). -/
inductive SourceArg where
  | number (n : Nat)
  | named (x : SourceName)
  | all
deriving DecidableEq, Repr, Inhabited

/-- What the foreground may ask for: the commands of R109 and R110, and a raw transaction (R63, R65, R276 to R280). -/
inductive Request where
  | disableSource (a : SourceArg)
  | setPriority (a : SourceArg) (level : Nat)
  | setThreshold (level : Nat)
  | enableSource (a : SourceArg)
  | claim
  | complete (id : Word)
  | enableTxwm
  | installVector
  | raw (t : Tx)
deriving DecidableEq, Repr, Inhabited

/-- The registers that a command modifies by read-modify-write (R67, R110). -/
inductive RmwReg where
  | enable0
  | enable1
  | uartIe
  | status
  | ie
deriving DecidableEq, Repr, Inhabited

/-- One access (or the stack-pointer write) of a command still to be issued by the foreground (R67, R110, R270): the
commands of R110 are lists of these. `writeOr r m` is `W r <- v OR m`, `writeAndNot r m` is `W r <- v & ~m`, with `v` the
word the foreground read last. -/
inductive Micro where
  | raw (t : Tx)
  | op (i : Instr)
  | writeOr (r : RmwReg) (mask : Word)
  | writeAndNot (r : RmwReg) (mask : Word)
  | setSp
deriving DecidableEq, Repr, Inhabited

/-- The phases of the sequencer (R22). -/
inductive Phase where
  | idle
  | decode
  | claim
  | readIp
  | refill
  | rxcount
  | complete
  | ret
deriving DecidableEq, Repr, Inhabited

/-- TrapCause (R14, R92). -/
structure TrapCause where
  isInterrupt : Bool
  code : BitVec 4
deriving DecidableEq, Repr, Inhabited

/-- A value for every piece of state that reset leaves unspecified or free (R48): whoever applies reset chooses it. -/
structure PowerOn where
  tc : TrapCause
  claimedId : Word
  ipq : Word
  bn : Nat
  bi : Nat
  cause : CauseWord
  tvec : Word
  /-- The whole status register; its MIE bit is cleared by reset (R48). -/
  status : Word
  ie : Word
  epc : Word
  pc : Word
  sp : Word
  prio : Table (BitVec 3)
  enable : Table Bool
  thr : BitVec 3
  line : Table Bool
  rxwm : Bool
deriving DecidableEq, Repr, Inhabited

/-- One step of one agent (R10), or an input of the outside world. -/
inductive Event where
  /-- SEQ takes its next step (R10(1), R22). -/
  | seq
  /-- The foreground issues a command or a raw transaction (R10(1), R109). -/
  | request (r : Request)
  /-- GW for one source (R176). -/
  | gateway (s : Src)
  /-- SER (R236). -/
  | serialize
  /-- ENV changes a free source line (R46). -/
  | setLine (s : Src) (level : Bool)
  /-- ENV changes the receive-watermark condition (R46). -/
  | setRxwm (level : Bool)
  /-- ENV delivers a trap entry with this cause word (R302). -/
  | trap (w : CauseWord)
  /-- The host core's foreground moves its program counter (R23). -/
  | corePc (pc : Word)
  /-- Reset (R340), with a value for everything R48 leaves unspecified. -/
  | reset (u : PowerOn)
deriving DecidableEq, Repr, Inhabited

end Sys2Proof
end

