-- ==== Sys2Proof/Config.lean ====
section
/-! DEFINITION. The implementation parameters of spec/00_scope.md R6 and R7, their defaults, and the free values (opaque
constants, nothing in Lean can evaluate them). -/

namespace Sys2Proof

/-- `SYNC_ACTION(c)` of R6 and D4. -/
inductive SyncAction where
  | ignore
  | fatal
deriving DecidableEq, Repr, Inhabited

/-- Offsets of the registers of a UART from its base (R64). UART1 has "same layout". -/
structure UartOffsets where
  txdata : Word
  rxdata : Word
  txctrl : Word
  rxctrl : Word
  ie : Word
  ip : Word
  div : Word
deriving DecidableEq, Repr

/-- Offsets of the registers of the PLIC from its base (R64); the priority array is at the base itself. -/
structure PlicOffsets where
  pending0 : Word
  pending1 : Word
  enable0 : Word
  enable1 : Word
  threshold : Word
  claim : Word
deriving DecidableEq, Repr

/-- The address map (R6, R64): the bases, the register offsets, and `NUART`, the number of UART instances (2, R6). -/
structure AddrMap where
  plicBase : Word
  plic : PlicOffsets
  nuart : Nat
  uart0Base : Word
  uart1Base : Word
  uart : UartOffsets
deriving DecidableEq, Repr

/-- Address of index 0 of the priority array, `PLIC_BASE` (R64). -/
def AddrMap.priority (m : AddrMap) : Word := m.plicBase

/-- `PLIC_PENDING0` (R64). -/
def AddrMap.pending0 (m : AddrMap) : Word := m.plicBase + m.plic.pending0

/-- `PLIC_PENDING1` (R64). -/
def AddrMap.pending1 (m : AddrMap) : Word := m.plicBase + m.plic.pending1

/-- `PLIC_ENABLE0` (R64). -/
def AddrMap.enable0 (m : AddrMap) : Word := m.plicBase + m.plic.enable0

/-- `PLIC_ENABLE1` (R64). -/
def AddrMap.enable1 (m : AddrMap) : Word := m.plicBase + m.plic.enable1

/-- `PLIC_THRESHOLD` (R64). -/
def AddrMap.threshold (m : AddrMap) : Word := m.plicBase + m.plic.threshold

/-- `PLIC_CLAIM` (R64). -/
def AddrMap.claim (m : AddrMap) : Word := m.plicBase + m.plic.claim

/-- `UART0_TXDATA` (R64). -/
def AddrMap.txdata (m : AddrMap) : Word := m.uart0Base + m.uart.txdata

/-- `UART0_TXCTRL` (R64). -/
def AddrMap.txctrl (m : AddrMap) : Word := m.uart0Base + m.uart.txctrl

/-- `UART0_IE` (R64). -/
def AddrMap.uartIe (m : AddrMap) : Word := m.uart0Base + m.uart.ie

/-- `UART0_IP` (R64). -/
def AddrMap.uartIp (m : AddrMap) : Word := m.uart0Base + m.uart.ip

/-- The addresses of the table of R64 marked "not modelled" (R47, R104): the receive registers and the divisor of UART0,
and every register of the second UART. -/
def AddrMap.unmodelled (m : AddrMap) : List Word :=
  [m.uart0Base + m.uart.rxdata, m.uart0Base + m.uart.rxctrl, m.uart0Base + m.uart.div] ++
    if 2 ≤ m.nuart then
      [m.uart.txdata, m.uart.rxdata, m.uart.txctrl, m.uart.rxctrl, m.uart.ie, m.uart.ip, m.uart.div].map
        (m.uart1Base + ·)
    else []

/-- The control-register numbers (R6, R95). -/
structure CsrMap where
  cause : BitVec 12
  tvec : BitVec 12
  status : BitVec 12
  ie : BitVec 12
deriving DecidableEq, Repr

/-- `SRC_MAP` (R6, R294): the source of every name. `SRC_UART0` is its entry `uart0`. -/
structure SrcMap where
  watchdog : Src
  rtc : Src
  uart0 : Src
  uart1 : Src
  gpio : Vector Src 32
  pwm : Vector Src 12
  i2c : Src
deriving DecidableEq, Repr

/-- The parameters of R6 that the spec does not fix. -/
structure Params where
  /-- `XLEN`: the width of the cause word; the async flag is bit `XLEN - 1`. -/
  xlen : Nat
  map : AddrMap
  csr : CsrMap
  src : SrcMap
  /-- `MSG`; `L` is its length. -/
  msg : List Byte
  /-- `B`. -/
  burst : Nat
  /-- `TXFIFO_DEPTH`. -/
  txDepth : Nat
  /-- `RXCOUNT_BITS`. -/
  rxBits : Nat
  /-- `SYNC_ACTION(c)` for c in 0..11. -/
  syncAction : Vector SyncAction 12
  /-- `HANDLER_ENTRY`. -/
  handlerEntry : Word
  /-- `STACK_TOP`. -/
  stackTop : Word
deriving DecidableEq, Repr

/-- Address of a register under a map (R64; `PLIC_PRIORITY(s)` is base + 4*s). -/
def AddrMap.addr (m : AddrMap) : Register → Word
  | .priority s => m.priority + 4#32 * s.setWidth 32
  | .pending0 => m.pending0
  | .pending1 => m.pending1
  | .enable0 => m.enable0
  | .enable1 => m.enable1
  | .threshold => m.threshold
  | .claim => m.claim
  | .txdata => m.txdata
  | .txctrl => m.txctrl
  | .uartIe => m.uartIe
  | .uartIp => m.uartIp

/-- The registers that are not entries of the priority array. -/
def Register.fixed : List Register :=
  [.pending0, .pending1, .enable0, .enable1, .threshold, .claim, .txdata, .txctrl, .uartIe, .uartIp]

/-- The priority-array index an address selects (R94: `s = (addr - PLIC_BASE) / 4`, 1 <= s <= 52), if it does. -/
def AddrMap.priorityIndex (m : AddrMap) (a : Word) : Option (BitVec 6) :=
  let off := (a - m.priority).toNat
  if off % 4 = 0 ∧ 1 ≤ off / 4 ∧ off / 4 ≤ 52 then some (BitVec.ofNat 6 (off / 4)) else none

/-- A usable map (92_eei_decisions.md, OPEN parameters: "distinct, 4-byte aligned"; R6: NUART is 2). -/
def AddrMap.wf (m : AddrMap) : Bool :=
  decide (m.nuart = 2)
    && decide ((Register.fixed.map m.addr ++ m.unmodelled).Nodup)
    && Register.fixed.all (fun r => (m.addr r).toNat % 4 == 0 && (m.priorityIndex (m.addr r)).isNone)
    && m.unmodelled.all (fun a => a.toNat % 4 == 0 && (m.priorityIndex a).isNone)
    && m.priority.toNat % 4 == 0

/-- Number of a control register. -/
def CsrMap.num (m : CsrMap) : Csr → BitVec 12
  | .cause => m.cause
  | .tvec => m.tvec
  | .status => m.status
  | .ie => m.ie

/-- The four numbers are distinct (OPEN parameters). -/
def CsrMap.wf (m : CsrMap) : Bool := decide ([m.cause, m.tvec, m.status, m.ie].Nodup)

/-- The source a name stands for (R109: "a name of the enumeration or its number"). -/
def SrcMap.named (m : SrcMap) : SourceName → Src
  | .watchdog => m.watchdog
  | .rtc => m.rtc
  | .uart0 => m.uart0
  | .uart1 => m.uart1
  | .gpio pin => m.gpio[pin]
  | .pwm unit channel => m.pwm[4 * unit.val + channel.val]
  | .i2c => m.i2c

/-- Each name has a position of its own (R14: "each mapped 1:1 to a bit position"). -/
def SrcMap.wf (m : SrcMap) : Bool :=
  decide (([m.watchdog, m.rtc, m.uart0, m.uart1, m.i2c] ++ m.gpio.toList ++ m.pwm.toList).Nodup)

/-- A cause word has room for its async flag beside the four bits of the code (R91; DEDUCED, assumption log 21). -/
def Params.xlenOk (p : Params) : Bool := decide (5 ≤ p.xlen)

/-- The constraints of R7(a), (b), (d) and of the table of OPEN parameters, and `xlenOk`. R7(c) is not assumed (R7). -/
def Params.wf (p : Params) : Bool :=
  p.xlenOk && p.map.wf && p.csr.wf && p.src.wf && !p.msg.isEmpty && decide (1 ≤ p.burst) && decide (1 ≤ p.txDepth)
    && decide (1 ≤ p.rxBits) && p.handlerEntry.toNat % 4 == 0

/-- The default map of R64 [the FE310 addresses, as the spec gives them]. -/
def AddrMap.default : AddrMap :=
  { plicBase := 0x0C000000#32
    plic :=
      { pending0 := 0x1000#32, pending1 := 0x1004#32, enable0 := 0x2000#32, enable1 := 0x2004#32
        threshold := 0x200000#32, claim := 0x200004#32 }
    nuart := 2
    uart0Base := 0x10013000#32
    uart1Base := 0x10023000#32
    uart :=
      { txdata := 0x00#32, rxdata := 0x04#32, txctrl := 0x08#32, rxctrl := 0x0C#32, ie := 0x10#32, ip := 0x14#32
        div := 0x18#32 } }

/-- The default numbers of R6. -/
def CsrMap.default : CsrMap := { cause := 0x342#12, tvec := 0x305#12, status := 0x300#12, ie := 0x304#12 }

/-- The default numbering of R294 and G3: id 1 watchdog, 2 rtc, 3 uart0, 4 uart1, 8 + n gpio n, 40 + 4*u + c pwm, 52 i2c
(an id is one more than the index). -/
def SrcMap.default : SrcMap :=
  { watchdog := 0
    rtc := 1
    uart0 := 2
    uart1 := 3
    gpio := Vector.ofFn fun n : Fin 32 => ⟨7 + n.val, by omega⟩
    pwm := Vector.ofFn fun n : Fin 12 => ⟨39 + n.val, by omega⟩
    i2c := 51 }

namespace Config

/-- First byte of `MSG` (OPEN, D20). -/
opaque msgHead : Byte

/-- The other bytes of `MSG` (OPEN, D20): with `msgHead` they make any message of length L >= 1. -/
opaque msgTail : List Byte

/-- `B - 1` (OPEN, D20; R7(b): B >= 1). -/
opaque burstPred : Nat

/-- Bits [31:2] of `HANDLER_ENTRY` (OPEN, D29; R7(d): a multiple of 4). -/
opaque handlerEntryHigh : BitVec 30

/-- `STACK_TOP` (OPEN, D29). -/
opaque stackTop : Word

/-- FREE VALUE: which agent moves next, and what ENV or the foreground chooses, where the script of the state is empty
(R10 "the spec fixes no order between agents"; I23, I24, I30). -/
opaque agentChoice : Nat → Event

/-- FREE VALUE: the bits of the status register outside the block that the core holds after a write that changes them
(R277 "other bits go to the core"). -/
opaque coreStatusBits : Nat → Word

/-- FREE VALUE: the same for the interrupt-enable register (R279). -/
opaque coreIeBits : Nat → Word

end Config

/-- The parameters at State.reset: the spec's defaults where R6 gives one, the opaque constants where it says OPEN. -/
def Config.params : Params :=
  { xlen := 32
    map := AddrMap.default
    csr := CsrMap.default
    src := SrcMap.default
    msg := Config.msgHead :: Config.msgTail
    burst := Config.burstPred + 1
    txDepth := 8
    rxBits := 32
    syncAction := Vector.replicate 12 .fatal
    handlerEntry := Config.handlerEntryHigh ++ 0#2
    stackTop := Config.stackTop }

end Sys2Proof
end

