-- ==== Sys2Proof/WellFormed.lean ====
section
/-! DEFINITION. Which terms of `Instr` stand for a transaction of the table: the source index of a priority register is
1..52 (R94, R107(e)); every other operand is a whole word, any value of which is a transaction. -/

namespace Sys2Proof

/-- A priority index 1..52 (R94: "the row is valid only for 1 <= s <= 52"). -/
def priorityIndexOk (s : BitVec 6) : Bool := decide (1 ≤ s.toNat ∧ s.toNat ≤ 52)

/-- The operands are in the range of spec/opcode_table.json. -/
def Instr.wf : Instr → Bool
  | .plicPriorityR s => priorityIndexOk s
  | .plicPriorityW s _ => priorityIndexOk s
  | .intReserved0 => true
  | .intReserved1 => true
  | .intReserved2 => true
  | .intSoftware => true
  | .intReserved4 => true
  | .intReserved5 => true
  | .intReserved6 => true
  | .intTimer => true
  | .intReserved8 => true
  | .intReserved9 => true
  | .intReserved10 => true
  | .intExternal => true
  | .intReserved12 => true
  | .intReserved13 => true
  | .intReserved14 => true
  | .intReserved15 => true
  | .exc0 => true
  | .exc1 => true
  | .exc2 => true
  | .exc3 => true
  | .exc4 => true
  | .exc5 => true
  | .exc6 => true
  | .exc7 => true
  | .exc8 => true
  | .exc9 => true
  | .exc10 => true
  | .exc11 => true
  | .excReserved12 => true
  | .excReserved13 => true
  | .excReserved14 => true
  | .excReserved15 => true
  | .plicPending0R => true
  | .plicPending1R => true
  | .plicPending0W _ => true
  | .plicPending1W _ => true
  | .plicEnable0R => true
  | .plicEnable0W _ => true
  | .plicEnable1R => true
  | .plicEnable1W _ => true
  | .plicThresholdR => true
  | .plicThresholdW _ => true
  | .plicClaimR => true
  | .plicCompleteW _ => true
  | .uart0TxdataW _ => true
  | .uart0TxdataR => true
  | .uart0IpR => true
  | .uart0IpW _ => true
  | .uart0IeR => true
  | .uart0IeW _ => true
  | .uart0TxctrlR => true
  | .uart0TxctrlW _ => true
  | .csrCauseR => true
  | .csrTvecW _ => true
  | .csrStatusR => true
  | .csrStatusW _ => true
  | .csrIeR => true
  | .csrIeW _ => true

end Sys2Proof
end

