-- ==== Sys2Proof/Decode.lean ====
section
/-! DEFINITION. The decoder, total on every transaction and rejecting by name (R63, R65, R92 to R95, R111), and after it
the encoder, both written from the formats of 30_encoding.md. The block has no instruction space (R60), so what is
decoded is the transaction itself and not bytes of a memory (assumption log 1). -/

namespace Sys2Proof

/-- The 16 operations of an asynchronous cause, in code order (R93, R121: rule R(122 + code)). -/
def interruptRows : Vector Instr 16 :=
  #v[.intReserved0, .intReserved1, .intReserved2, .intSoftware,
    .intReserved4, .intReserved5, .intReserved6, .intTimer,
    .intReserved8, .intReserved9, .intReserved10, .intExternal,
    .intReserved12, .intReserved13, .intReserved14, .intReserved15]

/-- The 16 operations of a synchronous cause, in code order (R93, R121: rule R(138 + code)). -/
def exceptionRows : Vector Instr 16 :=
  #v[.exc0, .exc1, .exc2, .exc3,
    .exc4, .exc5, .exc6, .exc7,
    .exc8, .exc9, .exc10, .exc11,
    .excReserved12, .excReserved13, .excReserved14, .excReserved15]

/-- TrapCause of a cause word (R92): the async flag is bit `XLEN - 1` (R6, R21), the code bits [3:0]. -/
def trapCauseOf (p : Params) (w : CauseWord) : TrapCause :=
  { isInterrupt := w.testBit (p.xlen - 1), code := BitVec.ofNat 4 w }

/-- The `XLEN` bits of a cause word. -/
def Params.causeBits (p : Params) (w : Nat) : CauseWord := w % 2 ^ p.xlen

/-- The cause word of an asynchronous cause, bits [XLEN-2:4] clear (R93: `async << 31 | code` at XLEN = 32). -/
def Params.interruptWord (p : Params) (code : Nat) : CauseWord := 2 ^ (p.xlen - 1) + code

/-- The operation a cause word selects: the top bit and bits [3:0], the bits between ignored (R91, R93). -/
def decodeCause (p : Params) (w : CauseWord) : Instr :=
  let tc := trapCauseOf p w
  if tc.isInterrupt then interruptRows[tc.code.toNat] else exceptionRows[tc.code.toNat]

/-- The register an address selects (R64, R94); none where the map has no register or marks it "not modelled" (R65). -/
def decodeAddr (m : AddrMap) (a : Word) : Option Register :=
  if m.unmodelled.contains a then none
  else
    match Register.fixed.find? (fun r => m.addr r == a) with
    | some r => some r
    | none => (m.priorityIndex a).map .priority

/-- The operation that reads a register (rows with `fields.dir` = R). -/
def Register.readInstr : Register → Instr
  | .priority s => .plicPriorityR s
  | .pending0 => .plicPending0R
  | .pending1 => .plicPending1R
  | .enable0 => .plicEnable0R
  | .enable1 => .plicEnable1R
  | .threshold => .plicThresholdR
  | .claim => .plicClaimR
  | .txdata => .uart0TxdataR
  | .uartIp => .uart0IpR
  | .uartIe => .uart0IeR
  | .txctrl => .uart0TxctrlR

/-- The operation that writes a register (rows with `fields.dir` = W). -/
def Register.writeInstr (data : Word) : Register → Instr
  | .priority s => .plicPriorityW s data
  | .pending0 => .plicPending0W data
  | .pending1 => .plicPending1W data
  | .enable0 => .plicEnable0W data
  | .enable1 => .plicEnable1W data
  | .threshold => .plicThresholdW data
  | .claim => .plicCompleteW data
  | .txdata => .uart0TxdataW data
  | .uartIp => .uart0IpW data
  | .uartIe => .uart0IeW data
  | .txctrl => .uart0TxctrlW data

/-- A register-space access (R63, R65, R94): whole aligned words of the map only. The order of the three checks is
DESIGN CHOICE (assumption log 14). -/
def decodeMmio (m : AddrMap) (dir : Dir) (addr : Word) (width : Nat) (data : Word) : Except Reject Instr :=
  if width ≠ 4 then .error .badWidth
  else if addr.toNat % 4 ≠ 0 then .error .misaligned
  else
    match decodeAddr m addr with
    | none => .error .unmapped
    | some r =>
      match dir with
      | .R => .ok r.readInstr
      | .W => .ok (r.writeInstr data)

/-- The control register a number selects (R95). -/
def decodeCsrNum (m : CsrMap) (n : BitVec 12) : Option Csr :=
  [Csr.cause, .tvec, .status, .ie].find? (fun c => m.num c == n)

/-- A control-register access (R95, R111): the table has no write of the cause register and no read of the trap vector,
and no other number; those are refused (DEDUCED, assumption log 15). -/
def decodeCsr (m : CsrMap) (dir : Dir) (n : BitVec 12) (data : Word) : Except Reject Instr :=
  match dir, decodeCsrNum m n with
  | .R, some .cause => .ok .csrCauseR
  | .W, some .tvec => .ok (.csrTvecW data)
  | .R, some .status => .ok .csrStatusR
  | .W, some .status => .ok (.csrStatusW data)
  | .R, some .ie => .ok .csrIeR
  | .W, some .ie => .ok (.csrIeW data)
  | _, _ => .error .noCsrOperation

/-- The decoder: every transaction is one of the 60 operations or is rejected by name (R111). -/
def decode (p : Params) : Tx → Except Reject Instr
  | .cause w => .ok (decodeCause p w)
  | .mmio dir addr width data => decodeMmio p.map dir addr width data
  | .csr dir n data => decodeCsr p.csr dir n data

/-- The transaction that reads a register (R94). -/
def readTx (p : Params) (r : Register) : Tx := .mmio .R (p.map.addr r) 4 0#32

/-- The transaction that writes a register (R94). -/
def writeTx (p : Params) (r : Register) (data : Word) : Tx := .mmio .W (p.map.addr r) 4 data

/-- The encoder: the transaction of an operation. A cause row is encoded with bits [XLEN-2:4] clear, a read with data 0. -/
def encode (p : Params) : Instr → Tx
  | .intReserved0 => .cause (p.interruptWord 0)
  | .intReserved1 => .cause (p.interruptWord 1)
  | .intReserved2 => .cause (p.interruptWord 2)
  | .intSoftware => .cause (p.interruptWord 3)
  | .intReserved4 => .cause (p.interruptWord 4)
  | .intReserved5 => .cause (p.interruptWord 5)
  | .intReserved6 => .cause (p.interruptWord 6)
  | .intTimer => .cause (p.interruptWord 7)
  | .intReserved8 => .cause (p.interruptWord 8)
  | .intReserved9 => .cause (p.interruptWord 9)
  | .intReserved10 => .cause (p.interruptWord 10)
  | .intExternal => .cause (p.interruptWord 11)
  | .intReserved12 => .cause (p.interruptWord 12)
  | .intReserved13 => .cause (p.interruptWord 13)
  | .intReserved14 => .cause (p.interruptWord 14)
  | .intReserved15 => .cause (p.interruptWord 15)
  | .exc0 => .cause 0
  | .exc1 => .cause 1
  | .exc2 => .cause 2
  | .exc3 => .cause 3
  | .exc4 => .cause 4
  | .exc5 => .cause 5
  | .exc6 => .cause 6
  | .exc7 => .cause 7
  | .exc8 => .cause 8
  | .exc9 => .cause 9
  | .exc10 => .cause 10
  | .exc11 => .cause 11
  | .excReserved12 => .cause 12
  | .excReserved13 => .cause 13
  | .excReserved14 => .cause 14
  | .excReserved15 => .cause 15
  | .plicPriorityR s => readTx p (.priority s)
  | .plicPriorityW s data => writeTx p (.priority s) data
  | .plicPending0R => readTx p .pending0
  | .plicPending1R => readTx p .pending1
  | .plicPending0W data => writeTx p .pending0 data
  | .plicPending1W data => writeTx p .pending1 data
  | .plicEnable0R => readTx p .enable0
  | .plicEnable0W data => writeTx p .enable0 data
  | .plicEnable1R => readTx p .enable1
  | .plicEnable1W data => writeTx p .enable1 data
  | .plicThresholdR => readTx p .threshold
  | .plicThresholdW data => writeTx p .threshold data
  | .plicClaimR => readTx p .claim
  | .plicCompleteW data => writeTx p .claim data
  | .uart0TxdataW data => writeTx p .txdata data
  | .uart0TxdataR => readTx p .txdata
  | .uart0IpR => readTx p .uartIp
  | .uart0IpW data => writeTx p .uartIp data
  | .uart0IeR => readTx p .uartIe
  | .uart0IeW data => writeTx p .uartIe data
  | .uart0TxctrlR => readTx p .txctrl
  | .uart0TxctrlW data => writeTx p .txctrl data
  | .csrCauseR => .csr .R p.csr.cause 0#32
  | .csrTvecW data => .csr .W p.csr.tvec data
  | .csrStatusR => .csr .R p.csr.status 0#32
  | .csrStatusW data => .csr .W p.csr.status data
  | .csrIeR => .csr .R p.csr.ie 0#32
  | .csrIeW data => .csr .W p.csr.ie data

/-- The transaction of a bare word of spec/opcode_table.json. The table gives a row its word alone, without format and
direction, so the choice is the model's (DESIGN CHOICE, assumption log 2): a row of at most 16 bits is a
control-register number, read where a read exists and else written; a wider word that some MMIO row's match and mask
select is an address, read; any other word is a cause word. -/
def tableTx (nbits w : Nat) : Tx :=
  if nbits ≤ 16 then
    let n := BitVec.ofNat 12 w
    match decodeCsr CsrMap.default .R n 0#32 with
    | .ok _ => .csr .R n 0#32
    | .error _ => .csr .W n 0#32
  else
    let a := BitVec.ofNat 32 w
    if (a &&& 0xFFFFFF03#32) == AddrMap.default.priority || (decodeAddr AddrMap.default a).isSome then .mmio .R a 4 0#32
    else .cause a.toNat

/-- What the decoder reads from a word of spec/opcode_table.json under the default parameters. -/
def decodeTableWord (nbits w : Nat) : Option Instr := (decode Config.params (tableTx nbits w)).toOption

end Sys2Proof
end

