-- ==== Sys2Proof/Machine/State.lean ====
section
/-! DEFINITION. The state of the block (spec/10_state.md R20 to R46) as plain data, the reasons a step can stop, and the
state after reset (R48). The sub-structures are the parts R20 names. -/

namespace Sys2Proof.Machine

/-- The closed list of fatal reasons (R25). -/
inductive FatalReason where
  | reservedInterruptCode (c : BitVec 4)
  | reservedExceptionCode (c : BitVec 4)
  | fatalException (c : BitVec 4)
  | invalidPriorityLevel (v : Nat)
  | invalidThresholdLevel (v : Nat)
deriving DecidableEq, Repr

/-- One entry of the access trace (R70). The value of a control-register read is a natural number: a cause word is `XLEN`
bits wide, the other registers 32 (R6, R27). -/
inductive Access where
  | read (addr value : Word)
  | write (addr value : Word)
  | csrRead (n : BitVec 12) (value : Nat)
  | csrWrite (n : BitVec 12) (value : Word)
deriving DecidableEq, Repr

/-- Sequencer state (R21, R22, R25, R26). -/
structure SeqState where
  phase : Phase
  tc : TrapCause
  claimedId : Word
  ipq : Word
  bn : Nat
  bi : Nat
  halted : Bool
  fatalReason : Option FatalReason
  txOverrun : Bool
  nestedTrap : Bool
deriving DecidableEq, Repr

/-- Core-interface control registers (R27 to R31), the core's program counter (R23) and its stack pointer (R24). `status`
and `ie` are whole words, so that the bits outside the block survive a read-modify-write (R276 to R279). -/
structure CoreState where
  cause : CauseWord
  tvec : Word
  tvecInstalled : Bool
  status : Word
  ie : Word
  epc : Word
  pc : Word
  sp : Word
deriving DecidableEq, Repr

/-- PLIC state (R32 to R37). -/
structure PlicState where
  prio : Table (BitVec 3)
  ip : Table Bool
  ie : Table Bool
  thr : BitVec 3
  insvc : Table Bool
deriving DecidableEq, Repr

/-- UART0 transmit state (R40 to R43); `txfifo` is oldest byte first. -/
structure UartState where
  txfifo : List Byte
  txdOut : List Byte
  txen : Bool
  nstop : Bool
  txcnt : BitVec 3
  ieTxwm : Bool
  ieRxwm : Bool
deriving DecidableEq, Repr

/-- Refill engine state (R45). -/
structure EngineState where
  cursor : Nat
  rxCount : Nat
deriving DecidableEq, Repr

/-- Free inputs (R46). The entry of `SRC_UART0` in `line` is not an input and is never read (assumption log 20). -/
structure InputState where
  line : Table Bool
  rxwm : Bool
deriving DecidableEq, Repr

/-- The foreground's place in its command: the micro-operations still to issue and the local `v` of R110 (the MODEL's
own, implied by R67 and R356; assumption log 12). -/
structure ForegroundState where
  todo : List Micro
  v : Word
deriving DecidableEq, Repr

/-- The whole state. `params`, `fg`, `rdata`, `script` and `draws` are the MODEL's own (assumption log 3, 4, 5, 12, 13);
`trace` is the observable of R70; the rest is R20's tuple. -/
structure State where
  params : Params
  seq : SeqState
  core : CoreState
  plic : PlicState
  uart : UartState
  engine : EngineState
  inputs : InputState
  fg : ForegroundState
  rdata : Nat
  trace : List Access
  script : List Event
  draws : Nat
deriving DecidableEq, Repr

/-- Why the machine stops with a fault. -/
inductive Fault where
  /-- An operation asked of SEQ while `halted = 1`: no step of SEQ is enabled (R25, R311, I20). Raised by `exec` only;
  `step` then leaves SEQ where it is. Safe. -/
  | seqHalted
  /-- `raise Fault(UninstalledVector)` (R299, R353): a trap entry before the trap vector was written. Safe. -/
  | uninstalledVector
  /-- `raise Fault(MessageIndexOutOfRange)` (R74): a refill push past the end of `MSG`. Safe. -/
  | messageIndexOutOfRange
deriving DecidableEq, Repr

/-- Why a request has no meaning (R9 `refuse`). Each is safe: the model gives the request no step. -/
inductive Refusal where
  /-- No meaning written yet; used by the dispatch alone. -/
  | notModelled (mnemonic : String)
  /-- `refuse(BadWidth)` (R63): an access of another width than 4 bytes. -/
  | badWidth
  /-- `refuse(Misaligned)` (R63). -/
  | misaligned
  /-- `refuse(Unmapped)` (R65): an address without a modelled register, a priority index outside 1..52 among them. -/
  | unmapped
  /-- A control-register access the table has no row for (R95, R111; assumption log 15). -/
  | noCsrOperation
  /-- `refuse(BadSource)` (R107(e), R189, R191, R193): a source operand outside 1..52, or "all" where it is not defined. -/
  | badSource
  /-- `refuse(BadVector)` (R106, R271): a trap vector whose bits [1:0] are not 0. -/
  | badVector
  /-- A cause-decode operation asked for outside phase DECODE, the precondition of R121 (assumption log 18). -/
  | notEnabled
deriving DecidableEq, Repr

/-- The choice of 0, false and the empty phase data for everything R48 leaves unspecified (DESIGN CHOICE, assumption
log 6). -/
def PowerOn.zero : PowerOn :=
  { tc := { isInterrupt := false, code := 0#4 }
    claimedId := 0#32
    ipq := 0#32
    bn := 0
    bi := 0
    cause := 0
    tvec := 0#32
    status := 0#32
    ie := 0#32
    epc := 0#32
    pc := 0#32
    sp := 0#32
    prio := Vector.replicate 52 0#3
    enable := Vector.replicate 52 false
    thr := 0#3
    line := Vector.replicate 52 false
    rxwm := false }

/-- The state after reset (R48, R340, R341) with parameters `p` and the values `u` for what R48 leaves unspecified; the
MIE bit (bit 3) of the status register is 0. -/
def State.resetWith (p : Params) (u : PowerOn) : State :=
  { params := p
    seq :=
      { phase := .idle, tc := u.tc, claimedId := u.claimedId, ipq := u.ipq, bn := u.bn, bi := u.bi
        halted := false, fatalReason := none, txOverrun := false, nestedTrap := false }
    core :=
      { cause := p.causeBits u.cause, tvec := u.tvec, tvecInstalled := false, status := u.status &&& ~~~8#32, ie := u.ie
        epc := u.epc, pc := u.pc, sp := u.sp }
    plic :=
      { prio := u.prio, ip := Vector.replicate 52 false, ie := u.enable, thr := u.thr
        insvc := Vector.replicate 52 false }
    uart :=
      { txfifo := [], txdOut := [], txen := false, nstop := false, txcnt := 0#3, ieTxwm := false, ieRxwm := false }
    engine := { cursor := 0, rxCount := 0 }
    inputs := { line := u.line, rxwm := u.rxwm }
    fg := { todo := [], v := 0#32 }
    rdata := 0
    trace := []
    script := []
    draws := 0 }

/-- The machine right after reset (R48), with the named choices of assumption log 5 and 6. -/
def State.reset : State := State.resetWith Config.params PowerOn.zero

end Sys2Proof.Machine
end

