-- ==== Sys2Proof/Machine/Operands.lean ====
section
/-! DEFINITION. Operand forms and word layouts: source ids and their bits (R96, R109, R110), the words of the PLIC tables
(R97 to R99), of the UART registers (R101 to R103) and of the control registers (R105, R106). -/

namespace Sys2Proof.Machine

/-- The source of an id 1..52 (R96); none for the sentinel 0 and for ids above 52. -/
def srcOfId (n : Nat) : Option Src := if h : 1 ≤ n ∧ n ≤ 52 then some ⟨n - 1, by omega⟩ else none

/-- The source of a `source` operand (R109, R110): none outside 1..52 and for "all", which only `disable_source` has. -/
def resolveSource (p : Params) : SourceArg → Option Src
  | .number n => srcOfId n
  | .named x => some (p.src.named x)
  | .all => none

/-- The source a priority index `addr[7:2]` names (R94). -/
def srcOfIndex (s : BitVec 6) : Option Src := srcOfId s.toNat

/-- The priority index of a source (R94). -/
def indexOfSrc (s : Src) : BitVec 6 := BitVec.ofNat 6 (Src.id s)

/-- `m(s)` = 1 << (s mod 32) (R110). -/
def srcMask (s : Src) : Word := 1#32 <<< (Src.id s % 32)

/-- `EN(s)` (R110): enable word 0 for s < 32, else word 1. -/
def enableReg (s : Src) : RmwReg := if Src.id s < 32 then .enable0 else .enable1

/-- The entry of a table at a position: 0 at the positions that are no source (R98). -/
def tableBit (t : Table Bool) (position : Nat) : Bool :=
  match srcOfId position with
  | some s => t[s]
  | none => false

/-- Word `k` of a pending or enable table: bit `b` is the entry at position 32*k + b (R98). -/
def tableWord (k : Nat) (t : Table Bool) : Word := BitVec.ofFnLE fun b : Fin 32 => tableBit t (32 * k + b.val)

/-- A table after a write of its word `k`: every source of that word takes its bit, the others keep theirs (R98, R184,
R186). -/
def tableWithWord (k : Nat) (t : Table Bool) (data : Word) : Table Bool :=
  Vector.ofFn fun s : Src => if Src.id s / 32 = k then data.getLsbD (Src.id s % 32) else t[s]

/-- A one-bit field as a word. -/
def bitWord (b : Bool) : Word := if b then 1#32 else 0#32

/-- A word with bit `i` set to `b`. -/
def withBit (w : Word) (i : Nat) (b : Bool) : Word :=
  if b then w ||| 1#32 <<< i else w &&& ~~~(1#32 <<< i)

/-- The low three bits, a PriorityLevel (R97, R99). -/
def levelOf (data : Word) : BitVec 3 := data.extractLsb' 0 3

/-- `UART0_TXDATA` as read: `full` in bit 31 (R101, R234). -/
def txdataWord (full : Bool) : Word := bitWord full <<< 31

/-- `UART0_IP` and `UART0_IE`: rx in bit 1, tx in bit 0 (R102, R235, R239). -/
def watermarkWord (rx tx : Bool) : Word := bitWord rx <<< 1 ||| bitWord tx

/-- `UART0_TXCTRL`: `txcnt` in [18:16], `nstop` in bit 1, `txen` in bit 0 (R103, R241). -/
def txctrlWord (u : UartState) : Word :=
  (u.txcnt.setWidth 32 <<< 16) ||| (bitWord u.nstop <<< 1) ||| bitWord u.txen

/-- The bits of the status register that belong to the block: MIE 3, MPIE 7 (R105). -/
def statusMask : Word := 0x00000088#32

/-- The bits of the interrupt-enable register that belong to the block: MSIE 3, MTIE 7, MEIE 11 (R105). -/
def ieMask : Word := 0x00000888#32

/-- A control register after a write (R277, R279): the block's bits are the written ones. The other bits "go to the
core": a write that returns them as held keeps them (R105, R276), and what the core holds after a write that changes
them is not said, so it is the free word `free` (DESIGN CHOICE, assumption log 8). -/
def mergeCore (mask held data free : Word) : Word :=
  if data &&& ~~~mask = held &&& ~~~mask then data else (data &&& mask) ||| (free &&& ~~~mask)

/-- A trap vector the block accepts: bits [1:0] are 0 (R106). -/
def vectorAligned (data : Word) : Bool := data.extractLsb' 0 2 == 0#2

/-- The operation that writes a register of a read-modify-write command (R110). -/
def rmwWrite (data : Word) : RmwReg → Instr
  | .enable0 => .plicEnable0W data
  | .enable1 => .plicEnable1W data
  | .uartIe => .uart0IeW data
  | .status => .csrStatusW data
  | .ie => .csrIeW data

/-- The operation that reads it (R110). -/
def rmwRead : RmwReg → Instr
  | .enable0 => .plicEnable0R
  | .enable1 => .plicEnable1R
  | .uartIe => .uart0IeR
  | .status => .csrStatusR
  | .ie => .csrIeR

end Sys2Proof.Machine
end

