-- ==== Sys2Proof/Machine/Flags.lean ====
section
/-! DEFINITION. The conditions that are functions of the state and have no storage: the fields of the status and
interrupt-enable registers (R105), the watermarks and UART0's source line (R237), the full flag (R234), the comparator
`eip` (R178), the claim arbiter (R180), and the conditions under which a trap is taken (R301, R302). -/

namespace Sys2Proof.Machine

/-- `MIE`, bit 3 of the status register (R29, R105). -/
def CoreState.mie (c : CoreState) : Bool := c.status.getLsbD 3

/-- `MPIE`, bit 7 of the status register (R29, R105). -/
def CoreState.mpie (c : CoreState) : Bool := c.status.getLsbD 7

/-- `MSIE`, bit 3 of the interrupt-enable register (R30, R105). -/
def CoreState.msie (c : CoreState) : Bool := c.ie.getLsbD 3

/-- `MTIE`, bit 7 of the interrupt-enable register (R30, R105). -/
def CoreState.mtie (c : CoreState) : Bool := c.ie.getLsbD 7

/-- `MEIE`, bit 11 of the interrupt-enable register (R30, R105). -/
def CoreState.meie (c : CoreState) : Bool := c.ie.getLsbD 11

/-- `ip_txwm`: the FIFO level is below the watermark level (R237, strict). -/
def ipTxwm (u : UartState) : Bool := decide (u.txfifo.length < u.txcnt.toNat)

/-- `ip_rxwm`: the free input (R237). -/
def ipRxwm (i : InputState) : Bool := i.rxwm

/-- The full flag of the transmit FIFO (R101, R234). -/
def txFull (p : Params) (u : UartState) : Bool := decide (u.txfifo.length = p.txDepth)

/-- `line[SRC_UART0]` (R237). -/
def uartLine (u : UartState) (i : InputState) : Bool := (ipTxwm u && u.ieTxwm) || (ipRxwm i && u.ieRxwm)

/-- The level of a source line (R177): UART0's is a function of the UART state, every other one is a free input. -/
def lineOf (s : State) (src : Src) : Bool :=
  if src = s.params.src.uart0 then uartLine s.uart s.inputs else s.inputs.line[src]

/-- A source that fires at the core (R178). -/
def PlicState.fires (p : PlicState) (s : Src) : Bool := p.ip[s] && p.ie[s] && decide (p.thr < p.prio[s])

/-- The external-interrupt line (R178). -/
def PlicState.eip (p : PlicState) : Bool := (List.finRange 52).any p.fires

/-- A candidate of the arbiter (R180): pending, enabled, priority at least 1. The threshold plays no part. -/
def PlicState.candidate (p : PlicState) (s : Src) : Bool := p.ip[s] && p.ie[s] && decide (0#3 < p.prio[s])

/-- One source considered by the arbiter, in rising order of ids: it replaces the best so far only with a strictly
larger priority, so that the smallest id wins a tie (R180). -/
def PlicState.arbitrate (p : PlicState) (best : Option Src) (s : Src) : Option Src :=
  if p.candidate s then
    match best with
    | none => some s
    | some b => if p.prio[b] < p.prio[s] then some s else some b
  else best

/-- The arbiter's winner (R180); none where there is no candidate. -/
def PlicState.winner (p : PlicState) : Option Src := (List.finRange 52).foldl p.arbitrate none

/-- The winner's id as the claim returns it, 0 for none (R100, R180). -/
def PlicState.winnerId (p : PlicState) : Nat :=
  match p.winner with
  | some s => Src.id s
  | none => 0

/-- The core takes the external interrupt (R301). -/
def extTaken (s : State) : Bool := s.core.mie && s.core.meie && s.plic.eip && s.seq.phase == .idle

/-- The admission table of R302 for a cause word, as far as the enables go. Bits [XLEN-2:4] are free. -/
def admitted (p : Params) (c : CoreState) (w : CauseWord) : Bool :=
  let tc := trapCauseOf p w
  if tc.isInterrupt then
    c.mie &&
      (if tc.code = 11#4 then c.meie
        else if tc.code = 3#4 then c.msie
        else if tc.code = 7#4 then c.mtie
        else true)
  else true

end Sys2Proof.Machine
end

