-- ==== Sys2Proof/Machine/Ops.lean ====
section
/-! DEFINITION. The shared operations: updates of the parts of the state, register accesses with their trace entry (R70),
the guard of every SEQ operation (R120, R311), the fatal halt (R311), taking a trap (R299, R302, R306) and the return
from one (R304), and the PLIC and UART effects that several operations share. -/

namespace Sys2Proof.Machine

/-! ## Updates of the parts of the state -/

def State.setSeq (s : State) (q : SeqState) : State := { s with seq := q }
def State.setCore (s : State) (c : CoreState) : State := { s with core := c }
def State.setPlic (s : State) (p : PlicState) : State := { s with plic := p }
def State.setUart (s : State) (u : UartState) : State := { s with uart := u }
def State.setEngine (s : State) (e : EngineState) : State := { s with engine := e }
def State.setInputs (s : State) (i : InputState) : State := { s with inputs := i }
def State.setFg (s : State) (f : ForegroundState) : State := { s with fg := f }
def State.setScript (s : State) (l : List Event) : State := { s with script := l }

/-- One free value more has been used (assumption log 4, 8). -/
def State.drawn (s : State) : State := { s with draws := s.draws + 1 }

/-- An access is recorded in the trace (R70). -/
def State.record (s : State) (a : Access) : State := { s with trace := s.trace ++ [a] }

/-- A read returns a value (R94). -/
def State.returns (s : State) (w : Nat) : State := { s with rdata := w }

/-! ## Accesses -/

/-- A register read that returned `w` (R9 `MemRead`, R70). -/
def State.memRead (s : State) (r : Register) (w : Word) : State := (s.record (.read (s.params.map.addr r) w)).returns w.toNat

/-- A register write of `w` (R9 `MemWrite`, R70). -/
def State.memWrite (s : State) (r : Register) (w : Word) : State := s.record (.write (s.params.map.addr r) w)

/-- A control-register read that returned `w` (R9 `CsrRead`, R70). -/
def State.csrRead (s : State) (c : Csr) (w : Nat) : State := (s.record (.csrRead (s.params.csr.num c) w)).returns w

/-- A control-register write of `w` (R9 `CsrWrite`, R70). -/
def State.csrWrite (s : State) (c : Csr) (w : Word) : State := s.record (.csrWrite (s.params.csr.num c) w)

/-! ## Outcomes -/

/-- An operation of SEQ: enabled only while `halted = 0` (R25, R120, R311). -/
def issue (s : State) (s' : State) : Host.Outcome State Fault Refusal :=
  if s.seq.halted then .fault .seqHalted else .next s'

/-- What follows an operation of SEQ in the same step. -/
def andThen (o : Host.Outcome State Fault Refusal) (f : State → State) : Host.Outcome State Fault Refusal :=
  match o with
  | .next s => .next (f s)
  | .fault r => .fault r
  | .refused r => .refused r

/-- The decoder's rejections as refusals of the machine. -/
def Refusal.ofReject : Reject → Refusal
  | .badWidth => .badWidth
  | .misaligned => .misaligned
  | .unmapped => .unmapped
  | .noCsrOperation => .noCsrOperation

/-! ## The sequencer -/

/-- `phase <- P` (R9). -/
def State.setPhase (s : State) (ph : Phase) : State := s.setSeq { s.seq with phase := ph }

/-- `raise Fatal(reason)`: `halted <- 1`, the reason recorded, nothing else (R311). -/
def State.raiseFatal (s : State) (r : FatalReason) : State :=
  s.setSeq { s.seq with halted := true, fatalReason := some r }

/-- The part of step DECODE that is common to all causes: the one read of the cause register, and TrapCause (R121). -/
def State.readCause (s : State) : State :=
  (s.csrRead .cause s.core.cause).setSeq { s.seq with tc := trapCauseOf s.params s.core.cause }

/-- Step DECODE with the action `act` of the cause's rule (R121; preconditions `halted = 0`, `phase = DECODE`). -/
def decodeStep (act : State → State) (s : State) : Host.Outcome State Fault Refusal :=
  if s.seq.halted then .fault .seqHalted
  else if s.seq.phase = .decode then .next (act s.readCause)
  else .refused .notEnabled

/-- `SyncAction(c)` (section 2.2 of 40_trap_dispatch.md). -/
def State.syncAction (c : Fin 12) (s : State) : State :=
  match s.params.syncAction[c] with
  | .fatal => s.raiseFatal (.fatalException (BitVec.ofNat 4 c.val))
  | .ignore => s.setPhase .ret

/-! ## Taking a trap and returning from one -/

/-- Trap entry (R299) with a cause word of `XLEN` bits: cause, saved pc, saved enable, enable off, pc at the vector, phase
DECODE. -/
def State.trapEntry (w : CauseWord) (s : State) : State :=
  (s.setCore
    { s.core with
      cause := w
      epc := s.core.pc
      status := withBit (withBit s.core.status 7 s.core.mie) 3 false
      pc := s.core.tvec }).setPhase .decode

/-- Trap return (R304). -/
def State.trapReturn (s : State) : State :=
  (s.setCore
    { s.core with
      status := withBit (withBit s.core.status 3 s.core.mpie) 7 true
      pc := s.core.epc }).setPhase .idle

/-- Delivery of a trap by ENV (R302). An entry that the enables do not admit, and any entry while halted, does not
happen; an admitted one outside the foreground is `raise Fault(NestedTrap)` (R306, assumption log 11); one before the
vector is installed is `raise Fault(UninstalledVector)` (R299, R353). -/
def deliverTrap (w : CauseWord) (s : State) : Host.Outcome State Fault Refusal :=
  if s.seq.halted || !admitted s.params s.core w then .next s
  else if s.seq.phase ≠ .idle then .next (s.setSeq { s.seq with nestedTrap := true })
  else if s.core.tvecInstalled then .next (s.trapEntry (s.params.causeBits w))
  else .fault .uninstalledVector

/-! ## PLIC and UART effects -/

/-- The claim's effect (R181): the winner leaves the pending set and is in service; nothing where there is none. -/
def PlicState.claimWinner (p : PlicState) : PlicState :=
  match p.winner with
  | some s => { p with ip := p.ip.set s false, insvc := p.insvc.set s true }
  | none => p

/-- The complete's effect (R182): no check but the range 1..52. -/
def PlicState.completeId (p : PlicState) (id : Nat) : PlicState :=
  match srcOfId id with
  | some s => { p with insvc := p.insvc.set s false }
  | none => p

/-- The gateway's latch for one source (R176). -/
def PlicState.latch (p : PlicState) (s : Src) : PlicState := { p with ip := p.ip.set s true }

/-- The effect of a write of `UART0_TXDATA` (R233): the byte is queued, or, with the FIFO full, dropped with the sticky
flag `tx_overrun` set (R238). -/
def State.pushByte (s : State) (b : Byte) : State :=
  if s.uart.txfifo.length < s.params.txDepth then s.setUart { s.uart with txfifo := s.uart.txfifo ++ [b] }
  else s.setSeq { s.seq with txOverrun := true }

end Sys2Proof.Machine
end

