-- ==== Sys2Proof/Machine/Cause.lean ====
section
/-! DEFINITION. The meanings of the 32 cause-decode operations (40_trap_dispatch.md R122 to R153). Each is the whole step
DECODE for its cause: the read of the cause register and TrapCause (R121, `decodeStep`), then the cause's own action.
The bits between the async flag and the code, [30:4] at XLEN = 32, are ignored (R91). -/

namespace Sys2Proof.Machine

/-- INT_RESERVED_0 (R122): a reserved interrupt cause is fatal. -/
def execIntReserved0 (s : State) : Host.Outcome State Fault Refusal := decodeStep (State.raiseFatal · (.reservedInterruptCode 0#4)) s

/-- INT_RESERVED_1 (R123): a reserved interrupt cause is fatal. -/
def execIntReserved1 (s : State) : Host.Outcome State Fault Refusal := decodeStep (State.raiseFatal · (.reservedInterruptCode 1#4)) s

/-- INT_RESERVED_2 (R124): a reserved interrupt cause is fatal. -/
def execIntReserved2 (s : State) : Host.Outcome State Fault Refusal := decodeStep (State.raiseFatal · (.reservedInterruptCode 2#4)) s

/-- INT_SOFTWARE (R125): recognised, no action, return. -/
def execIntSoftware (s : State) : Host.Outcome State Fault Refusal := decodeStep (State.setPhase · .ret) s

/-- INT_RESERVED_4 (R126): a reserved interrupt cause is fatal. -/
def execIntReserved4 (s : State) : Host.Outcome State Fault Refusal := decodeStep (State.raiseFatal · (.reservedInterruptCode 4#4)) s

/-- INT_RESERVED_5 (R127): a reserved interrupt cause is fatal. -/
def execIntReserved5 (s : State) : Host.Outcome State Fault Refusal := decodeStep (State.raiseFatal · (.reservedInterruptCode 5#4)) s

/-- INT_RESERVED_6 (R128): a reserved interrupt cause is fatal. -/
def execIntReserved6 (s : State) : Host.Outcome State Fault Refusal := decodeStep (State.raiseFatal · (.reservedInterruptCode 6#4)) s

/-- INT_TIMER (R129): recognised, no action, return. -/
def execIntTimer (s : State) : Host.Outcome State Fault Refusal := decodeStep (State.setPhase · .ret) s

/-- INT_RESERVED_8 (R130): a reserved interrupt cause is fatal. -/
def execIntReserved8 (s : State) : Host.Outcome State Fault Refusal := decodeStep (State.raiseFatal · (.reservedInterruptCode 8#4)) s

/-- INT_RESERVED_9 (R131): a reserved interrupt cause is fatal. -/
def execIntReserved9 (s : State) : Host.Outcome State Fault Refusal := decodeStep (State.raiseFatal · (.reservedInterruptCode 9#4)) s

/-- INT_RESERVED_10 (R132): a reserved interrupt cause is fatal. -/
def execIntReserved10 (s : State) : Host.Outcome State Fault Refusal := decodeStep (State.raiseFatal · (.reservedInterruptCode 10#4)) s

/-- INT_EXTERNAL (R133): the claim is next. -/
def execIntExternal (s : State) : Host.Outcome State Fault Refusal := decodeStep (State.setPhase · .claim) s

/-- INT_RESERVED_12 (R134): a reserved interrupt cause is fatal. -/
def execIntReserved12 (s : State) : Host.Outcome State Fault Refusal := decodeStep (State.raiseFatal · (.reservedInterruptCode 12#4)) s

/-- INT_RESERVED_13 (R135): a reserved interrupt cause is fatal. -/
def execIntReserved13 (s : State) : Host.Outcome State Fault Refusal := decodeStep (State.raiseFatal · (.reservedInterruptCode 13#4)) s

/-- INT_RESERVED_14 (R136): a reserved interrupt cause is fatal. -/
def execIntReserved14 (s : State) : Host.Outcome State Fault Refusal := decodeStep (State.raiseFatal · (.reservedInterruptCode 14#4)) s

/-- INT_RESERVED_15 (R137): a reserved interrupt cause is fatal. -/
def execIntReserved15 (s : State) : Host.Outcome State Fault Refusal := decodeStep (State.raiseFatal · (.reservedInterruptCode 15#4)) s

/-- EXC_0 (R138), instruction address misaligned: SyncAction(0). -/
def execExc0 (s : State) : Host.Outcome State Fault Refusal := decodeStep (State.syncAction 0) s

/-- EXC_1 (R139), instruction access fault: SyncAction(1). -/
def execExc1 (s : State) : Host.Outcome State Fault Refusal := decodeStep (State.syncAction 1) s

/-- EXC_2 (R140), illegal instruction: SyncAction(2). -/
def execExc2 (s : State) : Host.Outcome State Fault Refusal := decodeStep (State.syncAction 2) s

/-- EXC_3 (R141), breakpoint: SyncAction(3). -/
def execExc3 (s : State) : Host.Outcome State Fault Refusal := decodeStep (State.syncAction 3) s

/-- EXC_4 (R142), load address misaligned: SyncAction(4). -/
def execExc4 (s : State) : Host.Outcome State Fault Refusal := decodeStep (State.syncAction 4) s

/-- EXC_5 (R143), load access fault: SyncAction(5). -/
def execExc5 (s : State) : Host.Outcome State Fault Refusal := decodeStep (State.syncAction 5) s

/-- EXC_6 (R144), store address misaligned: SyncAction(6). -/
def execExc6 (s : State) : Host.Outcome State Fault Refusal := decodeStep (State.syncAction 6) s

/-- EXC_7 (R145), store access fault: SyncAction(7). -/
def execExc7 (s : State) : Host.Outcome State Fault Refusal := decodeStep (State.syncAction 7) s

/-- EXC_8 (R146), environment call from user mode: SyncAction(8). -/
def execExc8 (s : State) : Host.Outcome State Fault Refusal := decodeStep (State.syncAction 8) s

/-- EXC_9 (R147), environment call from supervisor mode: SyncAction(9). -/
def execExc9 (s : State) : Host.Outcome State Fault Refusal := decodeStep (State.syncAction 9) s

/-- EXC_10 (R148), environment call from hypervisor mode: SyncAction(10). -/
def execExc10 (s : State) : Host.Outcome State Fault Refusal := decodeStep (State.syncAction 10) s

/-- EXC_11 (R149), environment call from machine mode: SyncAction(11). -/
def execExc11 (s : State) : Host.Outcome State Fault Refusal := decodeStep (State.syncAction 11) s

/-- EXC_RESERVED_12 (R150): a reserved exception cause is fatal, whatever SYNC_ACTION says. -/
def execExcReserved12 (s : State) : Host.Outcome State Fault Refusal := decodeStep (State.raiseFatal · (.reservedExceptionCode 12#4)) s

/-- EXC_RESERVED_13 (R151): a reserved exception cause is fatal, whatever SYNC_ACTION says. -/
def execExcReserved13 (s : State) : Host.Outcome State Fault Refusal := decodeStep (State.raiseFatal · (.reservedExceptionCode 13#4)) s

/-- EXC_RESERVED_14 (R152): a reserved exception cause is fatal, whatever SYNC_ACTION says. -/
def execExcReserved14 (s : State) : Host.Outcome State Fault Refusal := decodeStep (State.raiseFatal · (.reservedExceptionCode 14#4)) s

/-- EXC_RESERVED_15 (R153): a reserved exception cause is fatal, whatever SYNC_ACTION says. -/
def execExcReserved15 (s : State) : Host.Outcome State Fault Refusal := decodeStep (State.raiseFatal · (.reservedExceptionCode 15#4)) s

end Sys2Proof.Machine
end

