-- ==== Sys2Proof/Machine/Control.lean ====
section
/-! DEFINITION. The meanings of the control-register operations (43_trap_vector_install.md R271, R276 to R280). -/

namespace Sys2Proof.Machine

/-- CSR_CAUSE_R (R280). -/
def execCsrCauseR (s : State) : Host.Outcome State Fault Refusal :=
  issue s (s.csrRead .cause s.core.cause)

/-- CSR_TVEC_W (R271): the vector and the ghost `tvec_installed`; `refuse(BadVector)` where bits [1:0] are not 0 (R106).
That this refusal is named before the halt of the machine is looked at is DESIGN CHOICE (assumption log 14). -/
def execCsrTvecW (data : Word) (s : State) : Host.Outcome State Fault Refusal :=
  if vectorAligned data then
    issue s ((s.setCore { s.core with tvec := data, tvecInstalled := true }).csrWrite .tvec data)
  else .refused .badVector

/-- CSR_STATUS_R (R276): MIE in bit 3, MPIE in bit 7, the other bits as the core holds them. -/
def execCsrStatusR (s : State) : Host.Outcome State Fault Refusal :=
  issue s (s.csrRead .status s.core.status.toNat)

/-- CSR_STATUS_W (R277): MIE and MPIE are written; the other bits go to the core (assumption log 8). -/
def execCsrStatusW (data : Word) (s : State) : Host.Outcome State Fault Refusal :=
  issue s
    (((s.setCore
        { s.core with
          status := mergeCore statusMask s.core.status data (Config.coreStatusBits s.draws) }).csrWrite
      .status data).drawn)

/-- CSR_IE_R (R278): MSIE in bit 3, MTIE in bit 7, MEIE in bit 11, the other bits as the core holds them. -/
def execCsrIeR (s : State) : Host.Outcome State Fault Refusal :=
  issue s (s.csrRead .ie s.core.ie.toNat)

/-- CSR_IE_W (R279): the three enables are written; the other bits go to the core (assumption log 8). -/
def execCsrIeW (data : Word) (s : State) : Host.Outcome State Fault Refusal :=
  issue s
    (((s.setCore
        { s.core with ie := mergeCore ieMask s.core.ie data (Config.coreIeBits s.draws) }).csrWrite
      .ie data).drawn)

end Sys2Proof.Machine
end

