-- ==== Sys2Proof/Machine/Plic.lean ====
section
/-! DEFINITION. The meanings of the PLIC register operations (41_plic.md R171 to R175, R181 to R188). Each is one access:
its effect, its trace entry (R70) and, for a read, the word returned. -/

namespace Sys2Proof.Machine

/-- PLIC_PRIORITY_R (R171): `prio[s]` zero-extended; an index outside 1..52 is unmapped (R94, I13). That this refusal is
named before the halt of the machine is looked at is DESIGN CHOICE (assumption log 14). -/
def execPlicPriorityR (idx : BitVec 6) (s : State) : Host.Outcome State Fault Refusal :=
  match srcOfIndex idx with
  | none => .refused .unmapped
  | some src => issue s (s.memRead (.priority idx) (s.plic.prio[src].setWidth 32))

/-- PLIC_PRIORITY_W (R172): `prio[s] <- data[2:0]`; an index outside 1..52 is unmapped (R94, I13). That this refusal is
named before the halt of the machine is looked at is DESIGN CHOICE (assumption log 14). -/
def execPlicPriorityW (idx : BitVec 6) (data : Word) (s : State) : Host.Outcome State Fault Refusal :=
  match srcOfIndex idx with
  | none => .refused .unmapped
  | some src =>
    issue s ((s.setPlic { s.plic with prio := s.plic.prio.set src (levelOf data) }).memWrite (.priority idx) data)

/-- PLIC_PENDING0_R (R173): pending bits of sources 1..31. -/
def execPlicPending0R (s : State) : Host.Outcome State Fault Refusal :=
  issue s (s.memRead .pending0 (tableWord 0 s.plic.ip))

/-- PLIC_PENDING1_R (R174): pending bits of sources 32..52. -/
def execPlicPending1R (s : State) : Host.Outcome State Fault Refusal :=
  issue s (s.memRead .pending1 (tableWord 1 s.plic.ip))

/-- PLIC_PENDING0_W (R175): ignored. -/
def execPlicPending0W (data : Word) (s : State) : Host.Outcome State Fault Refusal :=
  issue s (s.memWrite .pending0 data)

/-- PLIC_PENDING1_W (R175): ignored. -/
def execPlicPending1W (data : Word) (s : State) : Host.Outcome State Fault Refusal :=
  issue s (s.memWrite .pending1 data)

/-- PLIC_ENABLE0_R (R183): enable bits of sources 1..31. -/
def execPlicEnable0R (s : State) : Host.Outcome State Fault Refusal :=
  issue s (s.memRead .enable0 (tableWord 0 s.plic.ie))

/-- PLIC_ENABLE0_W (R184): the enable bits of sources 1..31 are replaced. -/
def execPlicEnable0W (data : Word) (s : State) : Host.Outcome State Fault Refusal :=
  issue s ((s.setPlic { s.plic with ie := tableWithWord 0 s.plic.ie data }).memWrite .enable0 data)

/-- PLIC_ENABLE1_R (R185): enable bits of sources 32..52. -/
def execPlicEnable1R (s : State) : Host.Outcome State Fault Refusal :=
  issue s (s.memRead .enable1 (tableWord 1 s.plic.ie))

/-- PLIC_ENABLE1_W (R186): the enable bits of sources 32..52 are replaced. -/
def execPlicEnable1W (data : Word) (s : State) : Host.Outcome State Fault Refusal :=
  issue s ((s.setPlic { s.plic with ie := tableWithWord 1 s.plic.ie data }).memWrite .enable1 data)

/-- PLIC_THRESHOLD_R (R187): `thr` zero-extended. -/
def execPlicThresholdR (s : State) : Host.Outcome State Fault Refusal :=
  issue s (s.memRead .threshold (s.plic.thr.setWidth 32))

/-- PLIC_THRESHOLD_W (R188): `thr <- data[2:0]`. -/
def execPlicThresholdW (data : Word) (s : State) : Host.Outcome State Fault Refusal :=
  issue s ((s.setPlic { s.plic with thr := levelOf data }).memWrite .threshold data)

/-- PLIC_CLAIM_R (R181): the winner's id is returned, its pending bit cleared and its in-service bit set, in one step. -/
def execPlicClaimR (s : State) : Host.Outcome State Fault Refusal :=
  issue s ((s.setPlic s.plic.claimWinner).memRead .claim (BitVec.ofNat 32 s.plic.winnerId))

/-- PLIC_COMPLETE_W (R182): the in-service bit of the id written is cleared. -/
def execPlicCompleteW (data : Word) (s : State) : Host.Outcome State Fault Refusal :=
  issue s ((s.setPlic (s.plic.completeId data.toNat)).memWrite .claim data)

end Sys2Proof.Machine
end

