-- ==== Sys2Proof/Machine/Uart.lean ====
section
/-! DEFINITION. The meanings of the UART0 register operations (42_uart_tx.md R233 to R235, R239 to R242). -/

namespace Sys2Proof.Machine

/-- UART0_TXDATA_W (R233, R238): byte [7:0] is queued, or dropped with `tx_overrun` set where the FIFO is full. -/
def execUart0TxdataW (data : Word) (s : State) : Host.Outcome State Fault Refusal :=
  issue s ((s.pushByte (data.extractLsb' 0 8)).memWrite .txdata data)

/-- UART0_TXDATA_R (R234): the full flag in bit 31. -/
def execUart0TxdataR (s : State) : Host.Outcome State Fault Refusal :=
  issue s (s.memRead .txdata (txdataWord (txFull s.params s.uart)))

/-- UART0_IP_R (R235): the two watermark conditions, not masked by the enables. -/
def execUart0IpR (s : State) : Host.Outcome State Fault Refusal :=
  issue s (s.memRead .uartIp (watermarkWord (ipRxwm s.inputs) (ipTxwm s.uart)))

/-- UART0_IP_W (R235): ignored. -/
def execUart0IpW (data : Word) (s : State) : Host.Outcome State Fault Refusal :=
  issue s (s.memWrite .uartIp data)

/-- UART0_IE_R (R239). -/
def execUart0IeR (s : State) : Host.Outcome State Fault Refusal :=
  issue s (s.memRead .uartIe (watermarkWord s.uart.ieRxwm s.uart.ieTxwm))

/-- UART0_IE_W (R240): `ie_txwm <- data[0]; ie_rxwm <- data[1]`. -/
def execUart0IeW (data : Word) (s : State) : Host.Outcome State Fault Refusal :=
  issue s
    ((s.setUart { s.uart with ieTxwm := data.getLsbD 0, ieRxwm := data.getLsbD 1 }).memWrite .uartIe data)

/-- UART0_TXCTRL_R (R241). -/
def execUart0TxctrlR (s : State) : Host.Outcome State Fault Refusal :=
  issue s (s.memRead .txctrl (txctrlWord s.uart))

/-- UART0_TXCTRL_W (R242): `txen <- data[0]; nstop <- data[1]; txcnt <- data[18:16]`. -/
def execUart0TxctrlW (data : Word) (s : State) : Host.Outcome State Fault Refusal :=
  issue s
    ((s.setUart
        { s.uart with
          txen := data.getLsbD 0
          nstop := data.getLsbD 1
          txcnt := data.extractLsb' 16 3 }).memWrite .txctrl data)

end Sys2Proof.Machine
end

