-- ==== Sys2Proof/Machine/Dispatch.lean ====
section
/-! DEFINITION. `exec`: one arm per row of spec/opcode_table.json, each one call of that row's meaning. -/

namespace Sys2Proof.Machine

def exec (i : Instr) (s : State) : Host.Outcome State Fault Refusal :=
  match i with
  | .intReserved0 => Sys2Proof.Machine.execIntReserved0 s
  | .intReserved1 => Sys2Proof.Machine.execIntReserved1 s
  | .intReserved2 => Sys2Proof.Machine.execIntReserved2 s
  | .intSoftware => Sys2Proof.Machine.execIntSoftware s
  | .intReserved4 => Sys2Proof.Machine.execIntReserved4 s
  | .intReserved5 => Sys2Proof.Machine.execIntReserved5 s
  | .intReserved6 => Sys2Proof.Machine.execIntReserved6 s
  | .intTimer => Sys2Proof.Machine.execIntTimer s
  | .intReserved8 => Sys2Proof.Machine.execIntReserved8 s
  | .intReserved9 => Sys2Proof.Machine.execIntReserved9 s
  | .intReserved10 => Sys2Proof.Machine.execIntReserved10 s
  | .intExternal => Sys2Proof.Machine.execIntExternal s
  | .intReserved12 => Sys2Proof.Machine.execIntReserved12 s
  | .intReserved13 => Sys2Proof.Machine.execIntReserved13 s
  | .intReserved14 => Sys2Proof.Machine.execIntReserved14 s
  | .intReserved15 => Sys2Proof.Machine.execIntReserved15 s
  | .exc0 => Sys2Proof.Machine.execExc0 s
  | .exc1 => Sys2Proof.Machine.execExc1 s
  | .exc2 => Sys2Proof.Machine.execExc2 s
  | .exc3 => Sys2Proof.Machine.execExc3 s
  | .exc4 => Sys2Proof.Machine.execExc4 s
  | .exc5 => Sys2Proof.Machine.execExc5 s
  | .exc6 => Sys2Proof.Machine.execExc6 s
  | .exc7 => Sys2Proof.Machine.execExc7 s
  | .exc8 => Sys2Proof.Machine.execExc8 s
  | .exc9 => Sys2Proof.Machine.execExc9 s
  | .exc10 => Sys2Proof.Machine.execExc10 s
  | .exc11 => Sys2Proof.Machine.execExc11 s
  | .excReserved12 => Sys2Proof.Machine.execExcReserved12 s
  | .excReserved13 => Sys2Proof.Machine.execExcReserved13 s
  | .excReserved14 => Sys2Proof.Machine.execExcReserved14 s
  | .excReserved15 => Sys2Proof.Machine.execExcReserved15 s
  | .plicPriorityR src => Sys2Proof.Machine.execPlicPriorityR src s
  | .plicPriorityW src data => Sys2Proof.Machine.execPlicPriorityW src data s
  | .plicPending0R => Sys2Proof.Machine.execPlicPending0R s
  | .plicPending1R => Sys2Proof.Machine.execPlicPending1R s
  | .plicPending0W data => Sys2Proof.Machine.execPlicPending0W data s
  | .plicPending1W data => Sys2Proof.Machine.execPlicPending1W data s
  | .plicEnable0R => Sys2Proof.Machine.execPlicEnable0R s
  | .plicEnable0W data => Sys2Proof.Machine.execPlicEnable0W data s
  | .plicEnable1R => Sys2Proof.Machine.execPlicEnable1R s
  | .plicEnable1W data => Sys2Proof.Machine.execPlicEnable1W data s
  | .plicThresholdR => Sys2Proof.Machine.execPlicThresholdR s
  | .plicThresholdW data => Sys2Proof.Machine.execPlicThresholdW data s
  | .plicClaimR => Sys2Proof.Machine.execPlicClaimR s
  | .plicCompleteW data => Sys2Proof.Machine.execPlicCompleteW data s
  | .uart0TxdataW data => Sys2Proof.Machine.execUart0TxdataW data s
  | .uart0TxdataR => Sys2Proof.Machine.execUart0TxdataR s
  | .uart0IpR => Sys2Proof.Machine.execUart0IpR s
  | .uart0IpW data => Sys2Proof.Machine.execUart0IpW data s
  | .uart0IeR => Sys2Proof.Machine.execUart0IeR s
  | .uart0IeW data => Sys2Proof.Machine.execUart0IeW data s
  | .uart0TxctrlR => Sys2Proof.Machine.execUart0TxctrlR s
  | .uart0TxctrlW data => Sys2Proof.Machine.execUart0TxctrlW data s
  | .csrCauseR => Sys2Proof.Machine.execCsrCauseR s
  | .csrTvecW data => Sys2Proof.Machine.execCsrTvecW data s
  | .csrStatusR => Sys2Proof.Machine.execCsrStatusR s
  | .csrStatusW data => Sys2Proof.Machine.execCsrStatusW data s
  | .csrIeR => Sys2Proof.Machine.execCsrIeR s
  | .csrIeW data => Sys2Proof.Machine.execCsrIeW data s

end Sys2Proof.Machine
end

