-- ==== Sys2Proof/Machine/Sequencer.lean ====
section
/-! DEFINITION. The agent SEQ (R10(1)): the handler phases CLAIM to RETURN (R154 to R159) with the refill engine (R244 to
R246), the foreground commands (R189 to R195, R251, R270) and one step of either. Every register access is made by `exec`
of the operation it is, and what the phase does with the result follows in the same step (R9). -/

namespace Sys2Proof.Machine

/-! ## The handler -/

/-- After the claim read (R154): the latch, and the choice by id. -/
def afterClaim (s : State) : State :=
  s.setSeq
    { s.seq with
      claimedId := BitVec.ofNat 32 s.rdata
      phase :=
        if s.rdata = 0 then .ret
        else if s.rdata = Src.id s.params.src.uart0 then .readIp
        else .complete }

/-- Number of bytes of a refill that starts at `cursor` (R244). -/
def burstLength (p : Params) (cursor : Nat) : Nat := min p.burst (p.msg.length - cursor)

/-- After the read of `UART0_IP` (R155): transmit first, then receive, else nothing; a refill is started (R244). -/
def afterReadIp (s : State) : State :=
  if s.rdata.testBit 0 then
    s.setSeq
      { s.seq with ipq := BitVec.ofNat 32 s.rdata, bn := burstLength s.params s.engine.cursor, bi := 0, phase := .refill }
  else if s.rdata.testBit 1 then s.setSeq { s.seq with ipq := BitVec.ofNat 32 s.rdata, phase := .rxcount }
  else s.setSeq { s.seq with ipq := BitVec.ofNat 32 s.rdata, phase := .complete }

/-- After one push of the refill (R245). -/
def afterPush (s : State) : State := s.setSeq { s.seq with bi := s.seq.bi + 1 }

/-- The cursor after a refill (R246): advanced by `B`, 0 as soon as that reaches `L`. -/
def cursorNext (p : Params) (cursor : Nat) : Nat :=
  if cursor + p.burst < p.msg.length then cursor + p.burst else 0

/-- Refill finish step (R246). -/
def refillFinish (s : State) : State :=
  (s.setEngine { s.engine with cursor := cursorNext s.params s.engine.cursor }).setPhase .complete

/-- One step of phase REFILL: a push (R245) while `bi < bn`, else the finish (R246). A message index out of range is a
fault (R74). -/
def refillStep (s : State) : Host.Outcome State Fault Refusal :=
  if s.seq.bi < s.seq.bn then
    match s.params.msg[s.engine.cursor + s.seq.bi]? with
    | some b => andThen (exec (.uart0TxdataW (b.setWidth 32)) s) afterPush
    | none => .fault .messageIndexOutOfRange
  else .next (refillFinish s)

/-- Step RXCOUNT (R157). -/
def rxCountStep (s : State) : State :=
  (s.setEngine { s.engine with rxCount := (s.engine.rxCount + 1) % 2 ^ s.params.rxBits }).setPhase .complete

/-! ## The foreground -/

/-- A command is accepted: its accesses are issued by the steps that follow, one each (R67, R110). -/
def State.start (s : State) (l : List Micro) : State := s.setFg { s.fg with todo := l }

/-- The operand check of a command with a single source (R107(e)). -/
def withSource (s : State) (a : SourceArg) (f : Src → Host.Outcome State Fault Refusal) :
    Host.Outcome State Fault Refusal :=
  match resolveSource s.params a with
  | some src => f src
  | none => .refused .badSource

/-- The foreground issues a command (R110) or a raw transaction. Preconditions: `halted = 0`, `phase = IDLE`, no command
in progress; for `install_vector` also `MIE = 0` (R270); where they fail nothing happens (assumption log 22). A level
above 7 is fatal before any access (R112); the source operand is checked first (assumption log 14). -/
def requestStep (r : Request) (s : State) : Host.Outcome State Fault Refusal :=
  if s.seq.halted || s.seq.phase != .idle || !s.fg.todo.isEmpty then .next s
  else
    match r with
    | .disableSource .all => .next (s.start [.op (.plicEnable0W 0#32), .op (.plicEnable1W 0#32)])
    | .disableSource a =>
      withSource s a fun src =>
        .next (s.start [.op (rmwRead (enableReg src)), .writeAndNot (enableReg src) (srcMask src)])
    | .setPriority a level =>
      withSource s a fun src =>
        if 7 < level then .next (s.raiseFatal (.invalidPriorityLevel level))
        else .next (s.start [.op (.plicPriorityW (indexOfSrc src) (BitVec.ofNat 32 level))])
    | .setThreshold level =>
      if 7 < level then .next (s.raiseFatal (.invalidThresholdLevel level))
      else .next (s.start [.op (.plicThresholdW (BitVec.ofNat 32 level))])
    | .enableSource a =>
      withSource s a fun src =>
        .next (s.start [.op (rmwRead (enableReg src)), .writeOr (enableReg src) (srcMask src)])
    | .claim => .next (s.start [.op .plicClaimR])
    | .complete id => .next (s.start [.op (.plicCompleteW id)])
    | .enableTxwm => .next (s.start [.op .uart0IeR, .writeOr .uartIe 1#32])
    | .installVector =>
      if s.core.mie then .next s
      else
        .next
          (s.start
            [.op (.csrTvecW s.params.handlerEntry), .setSp, .op .csrStatusR, .writeOr .status 0x8#32,
              .op .csrIeR, .writeOr .ie 0x800#32])
    | .raw t => .next (s.start [.raw t])

/-- The operation a micro-operation stands for, computed at the moment it is issued (R110); none for `x[2] <- STACK_TOP`
(R272). -/
def microInstr (s : State) : Micro → Option (Except Reject Instr)
  | .raw t => some (decode s.params t)
  | .op i => some (.ok i)
  | .writeOr r mask => some (.ok (rmwWrite (s.fg.v ||| mask) r))
  | .writeAndNot r mask => some (.ok (rmwWrite (s.fg.v &&& ~~~mask) r))
  | .setSp => none

/-- A read, by the direction of its transaction (R94, R95). -/
def isRead (p : Params) (i : Instr) : Bool :=
  match encode p i with
  | .cause _ => false
  | .mmio dir _ _ _ => dir == .R
  | .csr dir _ _ => dir == .R

/-- The foreground keeps the word a read of its own returned (the `v` of R110). -/
def latchRead (i : Instr) (s : State) : State :=
  if isRead s.params i then s.setFg { s.fg with v := BitVec.ofNat 32 s.rdata } else s

/-- The next micro-operation of the foreground; nothing where there is none. -/
def foregroundStep (s : State) : Host.Outcome State Fault Refusal :=
  match s.fg.todo with
  | [] => .next s
  | m :: rest =>
    match microInstr s m with
    | none => .next ((s.start rest).setCore { s.core with sp := s.params.stackTop })
    | some (.error e) => .refused (Refusal.ofReject e)
    | some (.ok i) => andThen (exec i (s.start rest)) (latchRead i)

/-! ## One step of SEQ -/

/-- The transaction SEQ fetches and decodes next: the cause word in phase DECODE (R121), the foreground's raw transaction
in phase IDLE (R63, R65). The other accesses of SEQ are issued as named operations. -/
def fetch (s : State) : Option Tx :=
  match s.seq.phase, s.fg.todo with
  | .decode, _ => some (.cause s.core.cause)
  | .idle, .raw t :: _ => some t
  | _, _ => none

/-- Step DECODE: the cause word selects exactly one operation (R121). -/
def decodePhaseStep (s : State) : Host.Outcome State Fault Refusal :=
  match decode s.params (.cause s.core.cause) with
  | .ok i => exec i s
  | .error e => .refused (Refusal.ofReject e)

/-- One step of SEQ by phase (R22); not enabled while halted (R25, R311), and then nothing happens. -/
def seqStep (s : State) : Host.Outcome State Fault Refusal :=
  if s.seq.halted then .next s
  else
    match s.seq.phase with
    | .idle => foregroundStep s
    | .decode => decodePhaseStep s
    | .claim => andThen (exec .plicClaimR s) afterClaim
    | .readIp => andThen (exec .uart0IpR s) afterReadIp
    | .refill => refillStep s
    | .rxcount => .next (rxCountStep s)
    | .complete => andThen (exec (.plicCompleteW s.seq.claimedId) s) (State.setPhase · .ret)
    | .ret => .next s.trapReturn

end Sys2Proof.Machine
end

