-- ==== Sys2Proof/Machine/Agents.lean ====
section
/-! DEFINITION. The steps of the other agents (R10): gateway, serializer, environment, reset; and one event of any agent.
An event whose step is not enabled changes nothing (assumption log 4). -/

namespace Sys2Proof.Machine

/-- Precondition of the gateway step of a source (R176). -/
def gatewayEnabled (s : State) (src : Src) : Bool := lineOf s src && !s.plic.ip[src] && !s.plic.insvc[src]

/-- Gateway step (R176). -/
def gatewayStep (src : Src) (s : State) : State :=
  if gatewayEnabled s src then s.setPlic (s.plic.latch src) else s

/-- Precondition of the serializer step (R236). -/
def serializerEnabled (u : UartState) : Bool := u.txen && !u.txfifo.isEmpty

/-- Serializer step (R236): the oldest byte leaves the FIFO and joins the history. -/
def serializerStep (s : State) : State :=
  if s.uart.txen then
    match s.uart.txfifo with
    | b :: rest => s.setUart { s.uart with txfifo := rest, txdOut := s.uart.txdOut ++ [b] }
    | [] => s
  else s

/-- ENV changes a free source line (R46); `line[SRC_UART0]` is not one. -/
def setLineStep (src : Src) (level : Bool) (s : State) : State :=
  if src = s.params.src.uart0 then s else s.setInputs { s.inputs with line := s.inputs.line.set src level }

/-- ENV changes the receive-watermark condition (R46). -/
def setRxwmStep (level : Bool) (s : State) : State := s.setInputs { s.inputs with rxwm := level }

/-- The host core's foreground moves its program counter (R23): only in the foreground, and not after a halt (assumption
log 7). -/
def corePcStep (pc : Word) (s : State) : State :=
  if s.seq.phase = .idle ∧ s.seq.halted = false then s.setCore { s.core with pc := pc } else s

/-- Reset (R340). The parameters, the events still to come and the count of free values are not the block's state and
stay (assumption log 24). -/
def resetStep (u : PowerOn) (s : State) : State :=
  { State.resetWith s.params u with script := s.script, draws := s.draws }

/-- One event of one agent (R10). -/
def agentStep (e : Event) (s : State) : Host.Outcome State Fault Refusal :=
  match e with
  | .seq => seqStep s
  | .request r => requestStep r s
  | .gateway src => .next (gatewayStep src s)
  | .serialize => .next (serializerStep s)
  | .setLine src level => .next (setLineStep src level s)
  | .setRxwm level => .next (setRxwmStep level s)
  | .trap w => deliverTrap w s
  | .corePc pc => .next (corePcStep pc s)
  | .reset u => .next (resetStep u s)

/-- The event that happens next: the first of the script, or where the script is empty the free choice (R10, I30). -/
def nextEvent (s : State) : Event :=
  match s.script with
  | e :: _ => e
  | [] => Config.agentChoice s.draws

/-- The state in which that event happens: it has left the script, or one free value has been used. -/
def takeEvent (s : State) : State :=
  match s.script with
  | _ :: rest => s.setScript rest
  | [] => s.drawn

/-- The state with a transaction placed where SEQ fetches it next, and SEQ the agent that moves next (assumption log 3). -/
def placeTx (t : Tx) (s : State) : State :=
  let q := { s.seq with halted := false }
  match t with
  | .cause w =>
    ((s.setSeq { q with phase := .decode }).setCore { s.core with cause := s.params.causeBits w }).setScript (.seq :: s.script)
  | t => ((s.setSeq { q with phase := .idle }).setFg { s.fg with todo := [.raw t] }).setScript (.seq :: s.script)

end Sys2Proof.Machine
end

