-- ==== Sys2Proof/Machine/Step.lean ====
section
/-! DEFINITION. One step of the machine: the next event (R10) happens. -/

namespace Sys2Proof.Machine

/-- One step: one event of one agent. -/
def step (s : State) : Host.Outcome State Fault Refusal := agentStep (nextEvent s) (takeEvent s)

/-- `s` with the word of a row of spec/opcode_table.json placed where the next step fetches it (assumption log 2, 3). -/
def State.withFetchWord (s : State) (nbits w : Nat) : State := placeTx (tableTx nbits w) s

end Sys2Proof.Machine
end

