-- ==== Sys2Proof/Safety.lean ====
section
/-! DEFINITION. What counts as a safe run, in the words claims use: fault-free and quiescent states (R312, R365), the
named premises about ENV (R302), the watermark constraint (R7, R232), the invariant of the model, runs of SEQ alone,
boot-order predicates on the trace (R275, R344) and weak fairness (R360, D33). -/

namespace Sys2Proof.Safety

open Sys2Proof.Machine

/-- No recorded fault (R312). -/
def faultFree (s : State) : Bool := !s.seq.txOverrun && !s.seq.nestedTrap

/-- A quiescent state (R365). -/
def quiescent (s : State) : Bool :=
  s.seq.phase == .idle && !s.seq.halted && faultFree s && (List.finRange 52).all (fun src => !s.plic.insvc[src])

/-! ## Premises about ENV (R302) -/

/-- `NoSyncException`: no delivery of a cause word with the async flag clear. -/
def noSyncException (p : Params) : Event → Prop
  | .trap w => (trapCauseOf p w).isInterrupt = true
  | _ => True

/-- `NoReservedInterrupt`: no delivery of an interrupt cause with a code outside 3, 7, 11. -/
def noReservedInterrupt (p : Params) : Event → Prop
  | .trap w => (trapCauseOf p w).isInterrupt = true → (trapCauseOf p w).code ∈ [3#4, 7#4, 11#4]
  | _ => True

/-- `NoSoftwareOrTimer`: no delivery of code 3 or 7 of the interrupts. -/
def noSoftwareOrTimer (p : Params) : Event → Prop
  | .trap w => (trapCauseOf p w).isInterrupt = true → (trapCauseOf p w).code ∉ [3#4, 7#4]
  | _ => True

/-- `NoSpuriousExternal`: an external interrupt is delivered only while `eip = 1`. -/
def noSpuriousExternal (s : State) : Event → Prop
  | .trap w =>
    (trapCauseOf s.params w).isInterrupt = true → (trapCauseOf s.params w).code = 11#4 → s.plic.eip = true
  | _ => True

/-- `CleanCauseUpperBits`: bits [XLEN-2:4] (at XLEN = 32, bits [30:4]) of a delivered cause word are 0. -/
def cleanCauseUpperBits (p : Params) : Event → Prop
  | .trap w => ∀ b, 4 ≤ b → b < p.xlen - 1 → w.testBit b = false
  | _ => True

/-- `CSR_TVEC` is "write-once per boot" and "nothing else issues it" (R28, R271): the foreground asks for no raw write of
the trap vector, but for one of the entry address itself (R281; a premise, assumption log 27). -/
def keepsVector (p : Params) : Event → Prop
  | .request (.raw t) => ∀ data, decode p t = .ok (.csrTvecW data) → data = p.handlerEntry
  | _ => True

/-- A micro-operation that writes no other trap vector than the entry address. -/
def microKeepsVector (p : Params) : Micro → Prop
  | .raw t => ∀ data, decode p t = .ok (.csrTvecW data) → data = p.handlerEntry
  | .op i => ∀ data, i = .csrTvecW data → data = p.handlerEntry
  | .writeOr _ _ => True
  | .writeAndNot _ _ => True
  | .setSp => True

/-- The installed vector is the entry address, and nothing in progress writes another one (R281). -/
def VectorOk (s : State) : Prop :=
  (s.core.tvecInstalled = true → s.core.tvec = s.params.handlerEntry) ∧
    ∀ m ∈ s.fg.todo, microKeepsVector s.params m

/-- The watermark constraint (R7(c), R232): `txcnt >= 1` and `(txcnt - 1) + B <= TXFIFO_DEPTH`. -/
def watermarkFits (s : State) : Prop :=
  1 ≤ s.uart.txcnt.toNat ∧ s.uart.txcnt.toNat - 1 + s.params.burst ≤ s.params.txDepth

/-! ## The invariant of the model -/

/-- The phases in which a source has been claimed by the dispatcher and not yet completed (R154 to R158). -/
def serving : Phase → Bool
  | .readIp | .refill | .rxcount | .complete => true
  | .idle | .decode | .claim | .ret => false

/-- No source is both pending and in service (R38). -/
def HandshakeOk (p : PlicState) : Prop := ∀ src : Src, p.insvc[src] = true → p.ip[src] = false

/-- The refill engine stays inside its message (R45, R244, R248(a), R248(b)): the cursor is a multiple of `B` below `L`,
the receive counter fits its width, and in phase REFILL the burst is the one fixed at its start. -/
def EngineOk (s : State) : Prop :=
  s.engine.cursor < s.params.msg.length ∧ s.params.burst ∣ s.engine.cursor ∧
    s.engine.rxCount < 2 ^ s.params.rxBits ∧
    (s.seq.phase = .refill → s.seq.bn = burstLength s.params s.engine.cursor ∧ s.seq.bi ≤ s.seq.bn)

/-- The sequencer and the core agree: interrupts are off in the handler (R299, R305), the handler was entered through an
installed vector (R299, R353), an installed vector is a multiple of 4 (R106), a fatal reason is recorded exactly when
halted (R25, R311), and while a source is being served it is the latched one and is in service (R154, R37). -/
def SequencerOk (s : State) : Prop :=
  (s.seq.phase ≠ .idle → s.core.mie = false) ∧
    (s.seq.phase ≠ .idle → s.core.tvecInstalled = true) ∧
    (s.core.tvecInstalled = true → vectorAligned s.core.tvec = true) ∧
    (s.seq.halted = true ↔ s.seq.fatalReason ≠ none) ∧
    (serving s.seq.phase = true →
      ∃ src : Src, s.seq.claimedId.toNat = Src.id src ∧ s.plic.insvc[src] = true)

/-- The invariant that every step keeps. -/
structure Inv (s : State) : Prop where
  params : s.params.wf = true
  handshake : HandshakeOk s.plic
  engine : EngineOk s
  sequencer : SequencerOk s
  fifo : s.uart.txfifo.length ≤ s.params.txDepth
  /-- The cause register holds `XLEN` bits (R6, R27). -/
  cause : s.core.cause < 2 ^ s.params.xlen

/-! ## Runs of SEQ alone -/

/-- `k` steps of SEQ with no step of another agent between them. -/
def seqRun : Nat → State → Host.Outcome State Fault Refusal
  | 0, s => .next s
  | k + 1, s =>
    match seqStep s with
    | .next s' => seqRun k s'
    | .fault r => .fault r
    | .refused r => .refused r

/-- The most steps of SEQ that a dispatch still takes (R163): `6 + B` from its start, fewer after each step. -/
def stepsLeft (s : State) : Nat :=
  match s.seq.phase with
  | .idle => 0
  | .decode => 6 + s.params.burst
  | .claim => 5 + s.params.burst
  | .readIp => 4 + s.params.burst
  | .refill => 3 + (s.seq.bn - s.seq.bi)
  | .rxcount => 3
  | .complete => 2
  | .ret => 1

/-! ## Boot order on the trace (R275, R344(a)) -/

/-- A write of the status register that sets MIE, or of the interrupt-enable register that sets MEIE. -/
def setsEnable (p : Params) : Access → Bool
  | .csrWrite n v => (n == p.csr.status && v.getLsbD 3) || (n == p.csr.ie && v.getLsbD 11)
  | .csrRead _ _ => false
  | .read _ _ => false
  | .write _ _ => false

/-- A write of the trap vector. -/
def writesVector (p : Params) : Access → Bool
  | .csrWrite n _ => n == p.csr.tvec
  | .csrRead _ _ => false
  | .read _ _ => false
  | .write _ _ => false

/-- Every enabling write of a trace has a vector write before it (R275). -/
def vectorFirst (p : Params) (trace : List Access) : Prop :=
  ∀ before a after, trace = before ++ a :: after → setsEnable p a = true → ∃ b ∈ before, writesVector p b = true

/-! ## Weak fairness (R176, R236, R301, D33), a premise of liveness claims only -/

/-- A run of the machine: each state is the next state of the one before. -/
def IsRun (run : Nat → State) : Prop := ∀ n, step (run n) = .next (run (n + 1))

/-- Weak fairness of a run: a gateway, the serializer or the external-interrupt entry that stays enabled is taken. -/
def WeaklyFair (run : Nat → State) : Prop :=
  (∀ src n, (∀ m ≥ n, gatewayEnabled (run m) src = true) → ∃ m ≥ n, nextEvent (run m) = .gateway src) ∧
    (∀ n, (∀ m ≥ n, serializerEnabled (run m).uart = true) → ∃ m ≥ n, nextEvent (run m) = .serialize) ∧
    (∀ n, (∀ m ≥ n, extTaken (run m) = true ∧ (run m).seq.halted = false) →
      ∃ m ≥ n, nextEvent (run m) = .trap ((run m).params.interruptWord 11))

end Sys2Proof.Safety
end

