-- ==== Sys2Proof/Certificates/Slice0/Obligations.lean ====
section
/-! DEFINITION. The statements about the model. First the shapes they share (namespace Sys2Proof.Claims), then one
definition per statement. Every next state is written as an explicit record, so each statement is also the frame: a field
it does not name is unchanged. -/

namespace Sys2Proof.Claims

open Sys2Proof.Machine Sys2Proof.Safety

/-- A cause word selects the row whose 32-bit match is `word`: the same async flag (bit `XLEN - 1`, R6; bit 31 of the
match) and the same code (bits [3:0]). -/
def Selects (p : Params) (word : Word) (w : CauseWord) : Prop :=
  w.testBit (p.xlen - 1) = word.getLsbD 31 ∧ w % 16 = word.toNat % 16

/-- A row of format CAUSE (R90, R91, R121): with XLEN = 32 the words that the mask 0x8000000F matches, and for every XLEN
the words with the row's flag and code, decode to `i`; and in phase DECODE of a running sequencer whose cause register
holds such a word `i` completes with one read of the cause register, TrapCause latched, and `f` done to the sequencer. -/
def CauseRow (i : Instr) (word : Word) (f : State → SeqState → SeqState) : Prop :=
  (∀ (p : Params) (w : CauseWord), p.xlen = 32 → w &&& 0x8000000F = word.toNat →
      decode p (.cause w) = .ok i) ∧
    (∀ (p : Params) (w : CauseWord), Selects p word w → decode p (.cause w) = .ok i) ∧
    ∀ s : State, s.seq.halted = false → s.seq.phase = .decode → Selects s.params word s.core.cause →
      exec i s =
        .next
          { s with
            seq :=
              f s { s.seq with tc := { isInterrupt := word.getLsbD 31, code := word.extractLsb' 0 4 } }
            rdata := s.core.cause
            trace := s.trace ++ [.csrRead s.params.csr.cause s.core.cause] }

/-- The action `raise Fatal(r)` (R311). -/
def halting (r : FatalReason) : State → SeqState → SeqState := fun _ q =>
  { q with halted := true, fatalReason := some r }

/-- The action `phase <- ph`. -/
def toPhase (ph : Phase) : State → SeqState → SeqState := fun _ q => { q with phase := ph }

/-- The action `SyncAction(c)`. -/
def syncing (c : Fin 12) : State → SeqState → SeqState := fun s q =>
  if s.params.syncAction[c] = .fatal then
    { q with halted := true, fatalReason := some (.fatalException (BitVec.ofNat 4 c.val)) }
  else { q with phase := .ret }

/-- A read row of format MMIO (R94): its address decodes to `i`, and `i` completes with `value` returned and traced and
nothing else changed. -/
def ReadRow (r : Register) (i : Instr) (value : State → Word) : Prop :=
  (∀ (p : Params) (data : Word), p.map.wf = true → decode p (.mmio .R (p.map.addr r) 4 data) = .ok i) ∧
    ∀ s : State, s.seq.halted = false →
      exec i s =
        .next { s with rdata := (value s).toNat, trace := s.trace ++ [.read (s.params.map.addr r) (value s)] }

/-- A write row of format MMIO (R94): its address decodes to `i data`, and `i data` completes with the effect `f` on the
state and the write traced. -/
def WriteRow (r : Register) (i : Word → Instr) (f : Word → State → State) : Prop :=
  (∀ (p : Params) (data : Word), p.map.wf = true → decode p (.mmio .W (p.map.addr r) 4 data) = .ok (i data)) ∧
    ∀ (s : State) (data : Word), s.seq.halted = false →
      exec (i data) s = .next { f data s with trace := s.trace ++ [.write (s.params.map.addr r) data] }

/-- What R180 calls the winner: a candidate of the largest priority, and among those of the smallest id. -/
def IsWinner (p : PlicState) (w : Src) : Prop :=
  (p.ip[w] = true ∧ p.ie[w] = true ∧ 1 ≤ p.prio[w].toNat) ∧
    ∀ c : Src, p.ip[c] = true → p.ie[c] = true → 1 ≤ p.prio[c].toNat →
      p.prio[c].toNat < p.prio[w].toNat ∨ (p.prio[c].toNat = p.prio[w].toNat ∧ Src.id w ≤ Src.id c)

/-- No source is a candidate of the arbiter (R180). -/
def NoCandidate (p : PlicState) : Prop :=
  ∀ c : Src, ¬(p.ip[c] = true ∧ p.ie[c] = true ∧ 1 ≤ p.prio[c].toNat)

/-- The largest priority over the pending and enabled sources, 0 if there is none (R178, the `M` of the equivalent
form). -/
def maxPriority (p : PlicState) : Nat :=
  (List.finRange 52).foldl (fun m s => if p.ip[s] && p.ie[s] then max m p.prio[s].toNat else m) 0

/-- The foreground is free to issue a command: running, phase IDLE, no command in progress. -/
def Ready (s : State) : Prop := s.seq.halted = false ∧ s.seq.phase = .idle ∧ s.fg.todo = []

/-- The bytes of the refill that starts at the cursor (R244, R247). -/
def burstBytes (s : State) : List Byte :=
  (s.params.msg.drop s.engine.cursor).take (burstLength s.params s.engine.cursor)

/-- The word `UART0_IP` returns (R235). -/
def ipWord (s : State) : Word := watermarkWord s.inputs.rxwm (decide (s.uart.txfifo.length < s.uart.txcnt.toNat))

/-- The dispatch of this state would serve UART0's transmit side (R154, R155). -/
def servesTx (s : State) : Prop :=
  s.plic.winnerId = Src.id s.params.src.uart0 ∧ s.uart.txfifo.length < s.uart.txcnt.toNat

/-- A `source` operand that stands for `src` (R109): its number, or a name that SRC_MAP gives it. -/
def Denotes (p : Params) (a : SourceArg) (src : Src) : Prop :=
  a = .number (Src.id src) ∨ ∃ x : SourceName, a = .named x ∧ p.src.named x = src

/-- Room for what is left of a refill (R249). -/
def RefillFits (s : State) : Prop :=
  s.seq.phase = .refill → s.uart.txfifo.length + (s.seq.bn - s.seq.bi) ≤ s.params.txDepth

/-- The trace of an external-interrupt dispatch after its cause read (R160), with no other agent's step in between. -/
def serviceTrace (s : State) : List Access :=
  let id : Word := BitVec.ofNat 32 s.plic.winnerId
  let device : List Access :=
    if s.plic.winnerId = Src.id s.params.src.uart0 then
      .read s.params.map.uartIp (ipWord s) ::
        (if s.uart.txfifo.length < s.uart.txcnt.toNat then
          (burstBytes s).map fun b => .write s.params.map.txdata (b.setWidth 32)
        else [])
    else []
  .read s.params.map.claim id :: (if s.plic.winnerId = 0 then [] else device ++ [.write s.params.map.claim id])

end Sys2Proof.Claims

open Sys2Proof Sys2Proof.Machine Sys2Proof.Safety Sys2Proof.Claims

/-! ## Cause decode (40_trap_dispatch.md section 2) -/

/-- R122, R123, R124, R126, R127, R128: the reserved interrupt codes 0 to 6 are fatal. -/
def Obligations.ReservedInterruptCodes0To6Halt : Prop :=
  CauseRow .intReserved0 0x80000000#32 (halting (.reservedInterruptCode 0#4)) ∧
    CauseRow .intReserved1 0x80000001#32 (halting (.reservedInterruptCode 1#4)) ∧
    CauseRow .intReserved2 0x80000002#32 (halting (.reservedInterruptCode 2#4)) ∧
    CauseRow .intReserved4 0x80000004#32 (halting (.reservedInterruptCode 4#4)) ∧
    CauseRow .intReserved5 0x80000005#32 (halting (.reservedInterruptCode 5#4)) ∧
    CauseRow .intReserved6 0x80000006#32 (halting (.reservedInterruptCode 6#4))

/-- R130, R131, R132, R134, R135, R136, R137: the reserved interrupt codes 8 to 15 are fatal. -/
def Obligations.ReservedInterruptCodes8To15Halt : Prop :=
  CauseRow .intReserved8 0x80000008#32 (halting (.reservedInterruptCode 8#4)) ∧
    CauseRow .intReserved9 0x80000009#32 (halting (.reservedInterruptCode 9#4)) ∧
    CauseRow .intReserved10 0x8000000A#32 (halting (.reservedInterruptCode 10#4)) ∧
    CauseRow .intReserved12 0x8000000C#32 (halting (.reservedInterruptCode 12#4)) ∧
    CauseRow .intReserved13 0x8000000D#32 (halting (.reservedInterruptCode 13#4)) ∧
    CauseRow .intReserved14 0x8000000E#32 (halting (.reservedInterruptCode 14#4)) ∧
    CauseRow .intReserved15 0x8000000F#32 (halting (.reservedInterruptCode 15#4))

/-- R150 to R153: the reserved exception codes are fatal, whatever SYNC_ACTION says. -/
def Obligations.ReservedExceptionCodesHalt : Prop :=
  CauseRow .excReserved12 0x0000000C#32 (halting (.reservedExceptionCode 12#4)) ∧
    CauseRow .excReserved13 0x0000000D#32 (halting (.reservedExceptionCode 13#4)) ∧
    CauseRow .excReserved14 0x0000000E#32 (halting (.reservedExceptionCode 14#4)) ∧
    CauseRow .excReserved15 0x0000000F#32 (halting (.reservedExceptionCode 15#4))

/-- R125, R129, R133: the software and timer interrupts return, the external interrupt goes to the claim. -/
def Obligations.RecognisedInterruptsChooseTheirPhase : Prop :=
  CauseRow .intSoftware 0x80000003#32 (toPhase .ret) ∧
    CauseRow .intTimer 0x80000007#32 (toPhase .ret) ∧
    CauseRow .intExternal 0x8000000B#32 (toPhase .claim)

/-- R138 to R149: the twelve defined exceptions do SyncAction of their code. -/
def Obligations.DefinedExceptionsFollowSyncAction : Prop :=
  CauseRow .exc0 0x00000000#32 (syncing 0) ∧ CauseRow .exc1 0x00000001#32 (syncing 1) ∧
    CauseRow .exc2 0x00000002#32 (syncing 2) ∧ CauseRow .exc3 0x00000003#32 (syncing 3) ∧
    CauseRow .exc4 0x00000004#32 (syncing 4) ∧ CauseRow .exc5 0x00000005#32 (syncing 5) ∧
    CauseRow .exc6 0x00000006#32 (syncing 6) ∧ CauseRow .exc7 0x00000007#32 (syncing 7) ∧
    CauseRow .exc8 0x00000008#32 (syncing 8) ∧ CauseRow .exc9 0x00000009#32 (syncing 9) ∧
    CauseRow .exc10 0x0000000A#32 (syncing 10) ∧ CauseRow .exc11 0x0000000B#32 (syncing 11)

/-- R91, R359: the bits between the async flag and the code (with XLEN = 32, bits [30:4]) take no part in the decode. -/
def Obligations.CauseUpperBitsAreIgnored : Prop :=
  (∀ (p : Params) (w : CauseWord), p.xlen = 32 → decode p (.cause w) = decode p (.cause (w &&& 0x8000000F))) ∧
    ∀ (p : Params) (w v : CauseWord), w.testBit (p.xlen - 1) = v.testBit (p.xlen - 1) → w % 16 = v % 16 →
      decode p (.cause w) = decode p (.cause v)

/-- R25, R120, R311 with R121: outside their preconditions the operations do not complete. That a halted sequencer gives
the fault seqHalted and another phase the refusal notEnabled is the model's choice (assumption log 9, 18). -/
def Obligations.CauseRowsNeedRunningDecode : Prop :=
  ∀ (p : Params) (w : CauseWord) (i : Instr) (s : State), decode p (.cause w) = .ok i →
    (s.seq.halted = true → exec i s = .fault .seqHalted) ∧
      (s.seq.halted = false → s.seq.phase ≠ .decode → exec i s = .refused .notEnabled)

/-! ## PLIC register operations (41_plic.md section 2) -/

/-- R171, R172: the priority register of each source reads its 3-bit priority and stores data[2:0]; R94, R65: the
indexes 0 and 53 to 63 are no register and are refused. That a halted machine answers this refusal too, and not the fault
seqHalted, is the model's choice (assumption log 14). -/
def Obligations.PriorityRegisterReadsAndWrites : Prop :=
  ∀ idx : BitVec 6,
    (∀ src : Src, idx.toNat = Src.id src →
      ReadRow (.priority idx) (.plicPriorityR idx) (fun s => s.plic.prio[src].setWidth 32) ∧
        WriteRow (.priority idx) (.plicPriorityW idx) (fun data s =>
          { s with plic := { s.plic with prio := s.plic.prio.set src (data.extractLsb' 0 3) } })) ∧
      (idx.toNat = 0 ∨ 53 ≤ idx.toNat →
        ∀ (s : State) (data : Word),
          exec (.plicPriorityR idx) s = .refused .unmapped ∧
            exec (.plicPriorityW idx data) s = .refused .unmapped)

/-- R173, R174, R175: the pending words read `ip` bit by bit and ignore writes. -/
def Obligations.PendingWordsReadAndIgnoreWrites : Prop :=
  (∃ value : State → Word, ReadRow .pending0 .plicPending0R value ∧
      ∀ s, (value s).getLsbD 0 = false ∧
        (∀ src, Src.id src < 32 → (value s).getLsbD (Src.id src) = s.plic.ip[src]) ∧
        (HandshakeOk s.plic → ∀ src, Src.id src < 32 → s.plic.insvc[src] = true →
          (value s).getLsbD (Src.id src) = false)) ∧
    (∃ value : State → Word, ReadRow .pending1 .plicPending1R value ∧
      ∀ s, (∀ b, 21 ≤ b → (value s).getLsbD b = false) ∧
        (∀ src, 32 ≤ Src.id src → (value s).getLsbD (Src.id src - 32) = s.plic.ip[src])) ∧
    WriteRow .pending0 .plicPending0W (fun _ s => s) ∧ WriteRow .pending1 .plicPending1W (fun _ s => s)

/-- R183, R185: the enable words read `ie` bit by bit, 0 at the positions without a source. -/
def Obligations.EnableWordsReadEnables : Prop :=
  (∃ value : State → Word, ReadRow .enable0 .plicEnable0R value ∧
      ∀ s, (value s).getLsbD 0 = false ∧
        ∀ src, Src.id src < 32 → (value s).getLsbD (Src.id src) = s.plic.ie[src]) ∧
    (∃ value : State → Word, ReadRow .enable1 .plicEnable1R value ∧
      ∀ s, (∀ b, 21 ≤ b → (value s).getLsbD b = false) ∧
        ∀ src, 32 ≤ Src.id src → (value s).getLsbD (Src.id src - 32) = s.plic.ie[src])

/-- R184, R186: a write of an enable word replaces the enables of its sources and no other, and takes effect on the
candidates and on the comparator at once. -/
def Obligations.EnableWritesReplaceTheirWord : Prop :=
  (∃ table : Word → State → Table Bool,
      WriteRow .enable0 .plicEnable0W (fun data s => { s with plic := { s.plic with ie := table data s } }) ∧
        ∀ data s src,
          (table data s)[src] = (if Src.id src < 32 then data.getLsbD (Src.id src) else s.plic.ie[src]) ∧
            (Src.id src < 32 → data.getLsbD (Src.id src) = false →
              ({ s.plic with ie := table data s } : PlicState).candidate src = false ∧
                ({ s.plic with ie := table data s } : PlicState).fires src = false)) ∧
    ∃ table : Word → State → Table Bool,
      WriteRow .enable1 .plicEnable1W (fun data s => { s with plic := { s.plic with ie := table data s } }) ∧
        ∀ data s src,
          (table data s)[src] = (if 32 ≤ Src.id src then data.getLsbD (Src.id src - 32) else s.plic.ie[src]) ∧
            (32 ≤ Src.id src → data.getLsbD (Src.id src - 32) = false →
              ({ s.plic with ie := table data s } : PlicState).candidate src = false ∧
                ({ s.plic with ie := table data s } : PlicState).fires src = false)

/-- R187, R188: the threshold register; a new threshold has no effect on claims. -/
def Obligations.ThresholdRegisterReadsAndWrites : Prop :=
  ReadRow .threshold .plicThresholdR (fun s => s.plic.thr.setWidth 32) ∧
    WriteRow .threshold .plicThresholdW (fun data s =>
      { s with plic := { s.plic with thr := data.extractLsb' 0 3 } }) ∧
    ∀ (p : PlicState) (level : BitVec 3), ({ p with thr := level } : PlicState).winner = p.winner

/-- R180, R181: the claim returns and takes the winner, which exists as soon as there is a candidate, or returns 0 and
changes nothing; a second claim right after it never returns the same id. -/
def Obligations.ClaimTakesTheWinner : Prop :=
  (∀ (p : Params) (data : Word), p.map.wf = true →
      decode p (.mmio .R p.map.claim 4 data) = .ok .plicClaimR) ∧
    ∀ s : State, s.seq.halted = false →
      (∀ w : Src, IsWinner s.plic w →
        exec .plicClaimR s =
          .next
            { s with
              plic := { s.plic with ip := s.plic.ip.set w false, insvc := s.plic.insvc.set w true }
              rdata := Src.id w
              trace := s.trace ++ [.read s.params.map.claim (BitVec.ofNat 32 (Src.id w))] }) ∧
        (NoCandidate s.plic →
          exec .plicClaimR s =
            .next { s with rdata := 0, trace := s.trace ++ [.read s.params.map.claim 0#32] }) ∧
        (NoCandidate s.plic ∨ ∃ w : Src, IsWinner s.plic w) ∧
        ∀ t u : State, exec .plicClaimR s = .next t → t.rdata ≠ 0 → exec .plicClaimR t = .next u →
          u.rdata ≠ t.rdata

/-- R182: a complete clears the in-service bit of an id 1..52 without any check, and does nothing for another id. -/
def Obligations.CompleteReleasesItsId : Prop :=
  (∀ (p : Params) (data : Word), p.map.wf = true →
      decode p (.mmio .W p.map.claim 4 data) = .ok (.plicCompleteW data)) ∧
    ∀ (s : State) (data : Word), s.seq.halted = false →
      (∀ src : Src, data.toNat = Src.id src →
        exec (.plicCompleteW data) s =
          .next
            { s with
              plic := { s.plic with insvc := s.plic.insvc.set src false }
              trace := s.trace ++ [.write s.params.map.claim data] }) ∧
        (data.toNat = 0 ∨ 52 < data.toNat →
          exec (.plicCompleteW data) s = .next { s with trace := s.trace ++ [.write s.params.map.claim data] })

/-- R178: the comparator, in both forms the rule gives. -/
def Obligations.ComparatorHasBothForms : Prop :=
  ∀ p : PlicState,
    (p.eip = true ↔
        ∃ s : Src, p.ip[s] = true ∧ p.ie[s] = true ∧ p.thr.toNat < p.prio[s].toNat) ∧
      (p.eip = true ↔ p.thr.toNat < maxPriority p) ∧ (p.thr = 7#3 → p.eip = false) ∧
      ∀ s : Src, (p.prio[s] = 0#3 → p.fires s = false) ∧
        (HandshakeOk p → p.insvc[s] = true → p.fires s = false)

/-! ## UART0 register operations (42_uart_tx.md section 2) -/

/-- R233, R238: a write of the transmit-data register queues its low byte, or with the FIFO full drops it and sets the
overrun flag, and the sequencer goes on. R234: a read returns the full flag in bit 31 and 0 elsewhere. -/
def Obligations.TxdataQueuesOrOverrunsAndReadsFull : Prop :=
  ReadRow .txdata .uart0TxdataR (fun s =>
      if s.uart.txfifo.length = s.params.txDepth then 0x80000000#32 else 0x00000000#32) ∧
  (∀ (p : Params) (data : Word), p.map.wf = true →
      decode p (.mmio .W p.map.txdata 4 data) = .ok (.uart0TxdataW data)) ∧
    ∀ (s : State) (data : Word), s.seq.halted = false →
      (s.uart.txfifo.length < s.params.txDepth →
        exec (.uart0TxdataW data) s =
          .next
            { s with
              uart := { s.uart with txfifo := s.uart.txfifo ++ [data.extractLsb' 0 8] }
              trace := s.trace ++ [.write s.params.map.txdata data] }) ∧
        (s.uart.txfifo.length = s.params.txDepth →
          exec (.uart0TxdataW data) s =
            .next
              { s with
                seq := { s.seq with txOverrun := true }
                trace := s.trace ++ [.write s.params.map.txdata data] })

/-- R235, R239, R240: the pending register is read-only and not masked; the enable register stores its two bits, and
setting `ie_txwm` below the watermark raises the line in the same step. -/
def Obligations.WatermarkRegistersReadAndWrite : Prop :=
  (∃ value : State → Word, ReadRow .uartIp .uart0IpR value ∧
      ∀ s, (value s).getLsbD 0 = decide (s.uart.txfifo.length < s.uart.txcnt.toNat) ∧
        (value s).getLsbD 1 = s.inputs.rxwm ∧ ∀ b, 2 ≤ b → (value s).getLsbD b = false) ∧
    WriteRow .uartIp .uart0IpW (fun _ s => s) ∧
    (∃ value : State → Word, ReadRow .uartIe .uart0IeR value ∧
      ∀ s, (value s).getLsbD 0 = s.uart.ieTxwm ∧ (value s).getLsbD 1 = s.uart.ieRxwm ∧
        ∀ b, 2 ≤ b → (value s).getLsbD b = false) ∧
    WriteRow .uartIe .uart0IeW (fun data s =>
      { s with uart := { s.uart with ieTxwm := data.getLsbD 0, ieRxwm := data.getLsbD 1 } }) ∧
    ∀ (s t : State) (data : Word), exec (.uart0IeW data) s = .next t → data.getLsbD 0 = true →
      s.uart.txfifo.length < s.uart.txcnt.toNat → lineOf t t.params.src.uart0 = true

/-- R241, R242: the transmit control register. -/
def Obligations.TxctrlReadsAndWrites : Prop :=
  (∃ value : State → Word, ReadRow .txctrl .uart0TxctrlR value ∧
      ∀ s, (value s).getLsbD 0 = s.uart.txen ∧ (value s).getLsbD 1 = s.uart.nstop ∧
        (value s).extractLsb' 16 3 = s.uart.txcnt ∧
        ∀ b, (2 ≤ b ∧ b < 16) ∨ 19 ≤ b → (value s).getLsbD b = false) ∧
    WriteRow .txctrl .uart0TxctrlW (fun data s =>
      { s with
        uart :=
          { s.uart with txen := data.getLsbD 0, nstop := data.getLsbD 1, txcnt := data.extractLsb' 16 3 } })

/-- R237: the watermark conditions and UART0's source line are functions of the state. -/
def Obligations.UartLineFollowsWatermarks : Prop :=
  ∀ s : State,
    (lineOf s s.params.src.uart0 = true ↔
        (s.uart.txfifo.length < s.uart.txcnt.toNat ∧ s.uart.ieTxwm = true) ∨
          (s.inputs.rxwm = true ∧ s.uart.ieRxwm = true)) ∧
      (ipTxwm s.uart = true ↔ s.uart.txfifo.length < s.uart.txcnt.toNat) ∧
      ipRxwm s.inputs = s.inputs.rxwm ∧ (s.uart.txcnt = 0#3 → ipTxwm s.uart = false) ∧
      (s.uart.txfifo = [] → 1 ≤ s.uart.txcnt.toNat → ipTxwm s.uart = true)

/-! ## Control registers (43_trap_vector_install.md section 2) -/

/-- R276, R278, R280: the reads of the control registers return the word held. -/
def Obligations.ControlRegisterReadsReturnTheWord : Prop :=
  ∀ s : State, s.seq.halted = false →
    exec .csrCauseR s =
        .next
          { s with rdata := s.core.cause, trace := s.trace ++ [.csrRead s.params.csr.cause s.core.cause] } ∧
      exec .csrStatusR s =
        .next
          { s with
            rdata := s.core.status.toNat
            trace := s.trace ++ [.csrRead s.params.csr.status s.core.status.toNat] } ∧
      exec .csrIeR s =
        .next
          { s with
            rdata := s.core.ie.toNat
            trace := s.trace ++ [.csrRead s.params.csr.ie s.core.ie.toNat] }

/-- R271, R106: the trap vector takes a multiple of 4 and records that it is installed; another value is refused. -/
def Obligations.VectorWriteInstallsAlignedEntry : Prop :=
  ∀ (s : State) (data : Word), s.seq.halted = false →
    (data.toNat % 4 = 0 →
      exec (.csrTvecW data) s =
        .next
          { s with
            core := { s.core with tvec := data, tvecInstalled := true }
            trace := s.trace ++ [.csrWrite s.params.csr.tvec data] }) ∧
      (data.toNat % 4 ≠ 0 → exec (.csrTvecW data) s = .refused .badVector)

/-- R277, R279 with R105: the block's bits are written, and the other bits are kept by a write that returns them as held.
What the core holds after a write that changes them is a free value of the model (assumption log 8). -/
def Obligations.ControlRegisterWritesSetTheirFields : Prop :=
  ∀ (s : State) (data : Word), s.seq.halted = false →
    (∃ st : Word,
      exec (.csrStatusW data) s =
          .next
            { s with
              core := { s.core with status := st }
              trace := s.trace ++ [.csrWrite s.params.csr.status data]
              draws := s.draws + 1 } ∧
        st.getLsbD 3 = data.getLsbD 3 ∧ st.getLsbD 7 = data.getLsbD 7 ∧
        ((∀ b, b ≠ 3 → b ≠ 7 → data.getLsbD b = s.core.status.getLsbD b) → st = data)) ∧
      ∃ st : Word,
        exec (.csrIeW data) s =
            .next
              { s with
                core := { s.core with ie := st }
                trace := s.trace ++ [.csrWrite s.params.csr.ie data]
                draws := s.draws + 1 } ∧
          st.getLsbD 3 = data.getLsbD 3 ∧ st.getLsbD 7 = data.getLsbD 7 ∧ st.getLsbD 11 = data.getLsbD 11 ∧
          ((∀ b, b ≠ 3 → b ≠ 7 → b ≠ 11 → data.getLsbD b = s.core.ie.getLsbD b) → st = data)

/-! ## Taking a trap and returning (60_exceptions.md) -/

/-- R299: a trap entry with a cause word of XLEN bits, and the fault of an entry before the vector is installed. -/
def Obligations.TrapEntrySavesAndMasks : Prop :=
  ∀ (w : CauseWord) (s : State), w < 2 ^ s.params.xlen → s.seq.halted = false → s.seq.phase = .idle →
    admitted s.params s.core w = true →
    (s.core.tvecInstalled = true →
      ∃ st : Word,
        agentStep (.trap w) s =
            .next
              { s with
                core := { s.core with cause := w, epc := s.core.pc, status := st, pc := s.core.tvec }
                seq := { s.seq with phase := .decode } } ∧
          st.getLsbD 3 = false ∧ st.getLsbD 7 = s.core.status.getLsbD 3 ∧
          ∀ b, b ≠ 3 → b ≠ 7 → st.getLsbD b = s.core.status.getLsbD b) ∧
      (s.core.tvecInstalled = false → agentStep (.trap w) s = .fault .uninstalledVector)

/-- R302: which cause words the enables admit; a word they do not admit, and any word while halted, enters no trap (that
the event then changes nothing is the model's form, assumption log 4). In the handler that includes `nested_trap`: that an
interrupt MIE masks is no trap entry in the sense of R306 and sets no flag there is the reading of assumption log 11. -/
def Obligations.TrapAdmissionFollowsTheTable : Prop :=
  ∀ (w : CauseWord) (s : State),
    (admitted s.params s.core w = true ↔
        w.testBit (s.params.xlen - 1) = false ∨
          (s.core.status.getLsbD 3 = true ∧
            (w % 16 = 11 → s.core.ie.getLsbD 11 = true) ∧
            (w % 16 = 3 → s.core.ie.getLsbD 3 = true) ∧
            (w % 16 = 7 → s.core.ie.getLsbD 7 = true))) ∧
      (s.seq.halted = true ∨ admitted s.params s.core w = false → agentStep (.trap w) s = .next s)

/-- R306 as assumption log 11 reads it: an admitted trap outside the foreground sets `nested_trap` and nothing else. -/
def Obligations.AdmittedTrapInHandlerIsNested : Prop :=
  ∀ (w : CauseWord) (s : State), s.seq.halted = false → s.seq.phase ≠ .idle →
    admitted s.params s.core w = true →
    agentStep (.trap w) s = .next { s with seq := { s.seq with nestedTrap := true } }

/-- R159, R304: the trap return. -/
def Obligations.TrapReturnRestores : Prop :=
  ∀ s : State, s.seq.halted = false → s.seq.phase = .ret →
    ∃ st : Word,
      seqStep s =
          .next
            { s with
              core := { s.core with status := st, pc := s.core.epc }
              seq := { s.seq with phase := .idle } } ∧
        st.getLsbD 3 = s.core.status.getLsbD 7 ∧ st.getLsbD 7 = true ∧
        ∀ b, b ≠ 3 → b ≠ 7 → st.getLsbD b = s.core.status.getLsbD b

/-! ## The service sequence (40_trap_dispatch.md section 3, 42_uart_tx.md section 3) -/

/-- R154: step CLAIM. -/
def Obligations.ClaimPhaseChoosesByIdentifier : Prop :=
  ∀ s : State, s.seq.halted = false → s.seq.phase = .claim →
    (∀ w : Src, IsWinner s.plic w →
      seqStep s =
        .next
          { s with
            plic := { s.plic with ip := s.plic.ip.set w false, insvc := s.plic.insvc.set w true }
            seq :=
              { s.seq with
                claimedId := BitVec.ofNat 32 (Src.id w)
                phase := if w = s.params.src.uart0 then .readIp else .complete }
            rdata := Src.id w
            trace := s.trace ++ [.read s.params.map.claim (BitVec.ofNat 32 (Src.id w))] }) ∧
      (NoCandidate s.plic →
        seqStep s =
          .next
            { s with
              seq := { s.seq with claimedId := 0#32, phase := .ret }
              rdata := 0
              trace := s.trace ++ [.read s.params.map.claim 0#32] })

/-- R155, R244: step READ_IP, transmit before receive. -/
def Obligations.ReadIpPhaseServesTransmitFirst : Prop :=
  ∀ s : State, s.seq.halted = false → s.seq.phase = .readIp →
    seqStep s =
      .next
        { s with
          seq :=
            if s.uart.txfifo.length < s.uart.txcnt.toNat then
              { s.seq with
                ipq := ipWord s
                bn := min s.params.burst (s.params.msg.length - s.engine.cursor)
                bi := 0
                phase := .refill }
            else if s.inputs.rxwm = true then { s.seq with ipq := ipWord s, phase := .rxcount }
            else { s.seq with ipq := ipWord s, phase := .complete }
          rdata := (ipWord s).toNat
          trace := s.trace ++ [.read s.params.map.uartIp (ipWord s)] }

/-- R157, R158: steps RXCOUNT and COMPLETE; the complete writes the latched id, which is a claimed one. -/
def Obligations.CountAndCompletePhases : Prop :=
  ∀ s : State, s.seq.halted = false →
    (s.seq.phase = .rxcount →
      seqStep s =
        .next
          { s with
            engine := { s.engine with rxCount := (s.engine.rxCount + 1) % 2 ^ s.params.rxBits }
            seq := { s.seq with phase := .complete } }) ∧
      (s.seq.phase = .complete → Inv s →
        ∃ src : Src, s.seq.claimedId.toNat = Src.id src ∧
          seqStep s =
            .next
              { s with
                plic := { s.plic with insvc := s.plic.insvc.set src false }
                seq := { s.seq with phase := .ret }
                trace := s.trace ++ [.write s.params.map.claim s.seq.claimedId] })

/-- R245, R246, R238, R74: the two steps of phase REFILL, the push into a full FIFO, and the fault of a message index out of range. -/
def Obligations.RefillPhasePushesThenFinishes : Prop :=
  ∀ s : State, s.seq.halted = false → s.seq.phase = .refill →
    (s.seq.bi < s.seq.bn → ∀ b : Byte, s.params.msg[s.engine.cursor + s.seq.bi]? = some b →
        s.uart.txfifo.length < s.params.txDepth →
        seqStep s =
          .next
            { s with
              uart := { s.uart with txfifo := s.uart.txfifo ++ [b] }
              seq := { s.seq with bi := s.seq.bi + 1 }
              trace := s.trace ++ [.write s.params.map.txdata (b.setWidth 32)] }) ∧
      (s.seq.bi < s.seq.bn → ∀ b : Byte, s.params.msg[s.engine.cursor + s.seq.bi]? = some b →
        s.params.txDepth ≤ s.uart.txfifo.length →
        seqStep s =
          .next
            { s with
              seq := { s.seq with bi := s.seq.bi + 1, txOverrun := true }
              trace := s.trace ++ [.write s.params.map.txdata (b.setWidth 32)] }) ∧
      (s.seq.bi < s.seq.bn → s.params.msg.length ≤ s.engine.cursor + s.seq.bi →
        seqStep s = .fault .messageIndexOutOfRange) ∧
      (s.seq.bn ≤ s.seq.bi →
        seqStep s =
          .next
            { s with
              engine :=
                { s.engine with
                  cursor :=
                    if s.engine.cursor + s.params.burst < s.params.msg.length then
                      s.engine.cursor + s.params.burst
                    else 0 }
              seq := { s.seq with phase := .complete } })

/-- R247: a refill with room for its burst pushes exactly the bytes of the message from the cursor on, in order, and
moves the cursor, in `bn` pushes and one finish. -/
def Obligations.RefillRunsAsOneOperation : Prop :=
  ∀ s : State, Inv s → s.seq.halted = false → s.seq.phase = .refill → s.seq.bi = 0 →
    s.uart.txfifo.length + s.seq.bn ≤ s.params.txDepth →
    seqRun (s.seq.bn + 1) s =
      .next
        { s with
          uart := { s.uart with txfifo := s.uart.txfifo ++ burstBytes s }
          engine := { s.engine with cursor := cursorNext s.params s.engine.cursor }
          seq := { s.seq with bi := s.seq.bn, phase := .complete }
          trace := s.trace ++ (burstBytes s).map fun b => .write s.params.map.txdata (b.setWidth 32) }

/-- R160, R161, R162: an external-interrupt dispatch with no other agent's step in between ends in the foreground within
6 + B steps with exactly the accesses of the big-step reading: one claim, one complete of the same id if it is not 0, and
the device accesses between them. -/
def Obligations.ExternalDispatchIsTheBigStep : Prop :=
  ∀ s : State, Inv s → s.seq.halted = false → s.seq.phase = .decode →
    decode s.params (.cause s.core.cause) = .ok .intExternal →
    ∃ (k : Nat) (t : State), k ≤ 6 + s.params.burst ∧ seqRun k s = .next t ∧
      t.seq.phase = .idle ∧ t.seq.halted = false ∧
      t.trace = s.trace ++ (.csrRead s.params.csr.cause s.core.cause :: serviceTrace s) ∧
      (∀ src : Src, t.plic.insvc[src] =
        (if Src.id src = s.plic.winnerId then false else s.plic.insvc[src])) ∧
      (∀ src : Src, t.plic.ip[src] = (if Src.id src = s.plic.winnerId then false else s.plic.ip[src])) ∧
      t.plic.prio = s.plic.prio ∧ t.plic.ie = s.plic.ie ∧ t.plic.thr = s.plic.thr ∧
      (servesTx s → t.engine.cursor = cursorNext s.params s.engine.cursor) ∧
      (¬servesTx s → t.engine.cursor = s.engine.cursor ∧ t.uart = s.uart) ∧
      t.engine.rxCount =
        (if s.plic.winnerId = Src.id s.params.src.uart0 ∧ ¬s.uart.txfifo.length < s.uart.txcnt.toNat ∧
            s.inputs.rxwm = true then
          (s.engine.rxCount + 1) % 2 ^ s.params.rxBits
        else s.engine.rxCount) ∧
      t.core.pc = s.core.epc ∧ t.core.mie = s.core.mpie ∧ t.core.mpie = true ∧ t.inputs = s.inputs

/-- R163: a dispatch reaches the foreground or a halt within 6 + B steps of SEQ, whatever the cause: run alone it does so
without a fault or a refusal, and, whatever the other agents do between (reset apart), each step of SEQ lowers the number
of steps left and no step of another agent stops or raises it. -/
def Obligations.DispatchFinishesWithinBound : Prop :=
  (∀ s : State, Inv s → s.seq.halted = false → s.seq.phase = .decode →
    ∃ (k : Nat) (t : State), k ≤ 6 + s.params.burst ∧ seqRun k s = .next t ∧
      (t.seq.phase = .idle ∨ t.seq.halted = true)) ∧
    ∀ s : State, Inv s → s.seq.halted = false → s.seq.phase ≠ .idle →
      stepsLeft s ≤ 6 + s.params.burst ∧
        (∃ t, agentStep .seq s = .next t ∧ (t.seq.halted = true ∨ stepsLeft t < stepsLeft s)) ∧
        ∀ e : Event, e ≠ .seq → (∀ u : PowerOn, e ≠ .reset u) →
          ∃ t, agentStep e s = .next t ∧ t.seq.phase = s.seq.phase ∧ t.seq.halted = false ∧
            stepsLeft t = stepsLeft s

/-- R249: under the watermark constraint no step of any agent outside the foreground raises the overrun flag, and the
room a refill needs is kept. -/
def Obligations.HandlerNeverOverruns : Prop :=
  ∀ s t : State, watermarkFits s → RefillFits s → step s = .next t →
    RefillFits t ∧ (s.seq.phase ≠ .idle → t.seq.txOverrun = true → s.seq.txOverrun = true)

/-- R248(c): from cursor 0 the cursor is 0 again after exactly ceil(L/B) refills and not before. -/
def Obligations.CursorReturnsAfterCeilingOfCalls : Prop :=
  ∀ p : Params, p.wf = true →
    (cursorNext p)^[(p.msg.length + p.burst - 1) / p.burst] 0 = 0 ∧
      ∀ k, 0 < k → k < (p.msg.length + p.burst - 1) / p.burst → (cursorNext p)^[k] 0 = k * p.burst ∧ (cursorNext p)^[k] 0 ≠ 0

/-! ## Commands (41_plic.md section 3, 42_uart_tx.md R251, 43_trap_vector_install.md section 1). How a command stands
between its accesses, and the step that accepts it, are the model's (assumption log 12, 22). -/

/-- R189, R193, R109: disabling or enabling one source, given by its number or by a name, reads its enable word, writes it
back with that one bit changed, and leaves every other enable as it was. -/
def Obligations.EnableAndDisableChangeOneSource : Prop :=
  ∀ (s : State) (src : Src) (arg : SourceArg), Ready s → Denotes s.params arg src →
    (∃ a t v, requestStep (.enableSource arg) s = .next a ∧ seqRun 2 a = .next t ∧
        (∀ x : Src, t.plic.ie[x] = if x = src then true else s.plic.ie[x]) ∧
        t.trace = s.trace ++
          [.read (if Src.id src < 32 then s.params.map.enable0 else s.params.map.enable1) v,
            .write (if Src.id src < 32 then s.params.map.enable0 else s.params.map.enable1)
              (v ||| 1#32 <<< (Src.id src % 32))] ∧
        t.plic.ip = s.plic.ip ∧ t.plic.insvc = s.plic.insvc ∧ t.plic.prio = s.plic.prio ∧
        t.plic.thr = s.plic.thr ∧ t.seq = s.seq ∧ t.core = s.core ∧ t.uart = s.uart ∧ t.engine = s.engine) ∧
      ∃ a t v, requestStep (.disableSource arg) s = .next a ∧ seqRun 2 a = .next t ∧
        (∀ x : Src, t.plic.ie[x] = if x = src then false else s.plic.ie[x]) ∧
        t.trace = s.trace ++
          [.read (if Src.id src < 32 then s.params.map.enable0 else s.params.map.enable1) v,
            .write (if Src.id src < 32 then s.params.map.enable0 else s.params.map.enable1)
              (v &&& ~~~(1#32 <<< (Src.id src % 32)))] ∧
        t.plic.ip = s.plic.ip ∧ t.plic.insvc = s.plic.insvc ∧ t.plic.prio = s.plic.prio ∧
        t.plic.thr = s.plic.thr ∧ t.seq = s.seq ∧ t.core = s.core ∧ t.uart = s.uart ∧ t.engine = s.engine

/-- R190, R200(c): disabling all sources writes both words with 0, and a claim right after it returns 0 whatever was
pending. -/
def Obligations.DisableAllThenClaimReturnsZero : Prop :=
  ∀ s : State, Ready s →
    ∃ a b c, requestStep (.disableSource .all) s = .next a ∧ seqRun 2 a = .next b ∧
      exec .plicClaimR b = .next c ∧
      (∀ x : Src, b.plic.ie[x] = false) ∧ b.plic.ip = s.plic.ip ∧ b.plic.eip = false ∧
      b.trace = s.trace ++ [.write s.params.map.enable0 0#32, .write s.params.map.enable1 0#32] ∧
      c.rdata = 0 ∧ c.plic = b.plic

/-- R112, R191, R192, R109: for a source given by its number or by a name, a level 0 to 7 is written with one access; a
level above 7 halts with no access. -/
def Obligations.LevelCommandsCheckTheirOperand : Prop :=
  ∀ (s : State) (src : Src) (arg : SourceArg) (level : Nat), Ready s → Denotes s.params arg src →
    (level ≤ 7 →
      (∃ a t, requestStep (.setPriority arg level) s = .next a ∧ seqRun 1 a = .next t ∧
          t.plic = { s.plic with prio := s.plic.prio.set src (BitVec.ofNat 3 level) } ∧
          t.trace = s.trace ++
            [.write (s.params.map.priority + 4#32 * BitVec.ofNat 32 (Src.id src)) (BitVec.ofNat 32 level)]) ∧
        ∃ a t, requestStep (.setThreshold level) s = .next a ∧ seqRun 1 a = .next t ∧
          t.plic = { s.plic with thr := BitVec.ofNat 3 level } ∧
          t.trace = s.trace ++ [.write s.params.map.threshold (BitVec.ofNat 32 level)]) ∧
      (7 < level →
        requestStep (.setPriority arg level) s =
            .next
              { s with
                seq := { s.seq with halted := true, fatalReason := some (.invalidPriorityLevel level) } } ∧
          requestStep (.setThreshold level) s =
            .next
              { s with
                seq := { s.seq with halted := true, fatalReason := some (.invalidThresholdLevel level) } })

/-- R107(e), R189, R191, R193: a source operand outside 1..52, or "all" where it is not defined, is refused, whatever the
level (that the source is checked before the level is the model's choice, assumption log 14). -/
def Obligations.BadSourceOperandsAreRefused : Prop :=
  ∀ (s : State) (n level : Nat), Ready s →
    (n = 0 ∨ 52 < n →
      requestStep (.disableSource (.number n)) s = .refused .badSource ∧
        requestStep (.enableSource (.number n)) s = .refused .badSource ∧
        requestStep (.setPriority (.number n) level) s = .refused .badSource) ∧
      requestStep (.enableSource .all) s = .refused .badSource ∧
      requestStep (.setPriority .all level) s = .refused .badSource

/-- R270 to R275: the installer's six steps, its trace, and the vector and the stack pointer before any enable. -/
def Obligations.InstallVectorRunsInOrder : Prop :=
  ∀ s : State, Ready s → s.params.wf = true → s.core.mie = false →
    ∃ a b t, requestStep .installVector s = .next a ∧ seqRun 2 a = .next b ∧ seqRun 4 b = .next t ∧
      b.core =
        { s.core with tvec := s.params.handlerEntry, tvecInstalled := true, sp := s.params.stackTop } ∧
      t.core =
        { b.core with status := s.core.status ||| 0x8#32, ie := s.core.ie ||| 0x800#32 } ∧
      t.trace = s.trace ++
        [.csrWrite s.params.csr.tvec s.params.handlerEntry, .csrRead s.params.csr.status s.core.status.toNat,
          .csrWrite s.params.csr.status (s.core.status ||| 0x8#32), .csrRead s.params.csr.ie s.core.ie.toNat,
          .csrWrite s.params.csr.ie (s.core.ie ||| 0x800#32)] ∧
      t.core.mie = true ∧ t.core.meie = true ∧ t.plic = s.plic ∧ t.uart = s.uart ∧ t.fg.todo = [] ∧
      (vectorFirst s.params s.trace → vectorFirst s.params t.trace)

/-- R251 (fifth step): `enable_txwm()` sets `ie_txwm` and keeps `ie_rxwm`. -/
def Obligations.EnableTxwmSetsOneBit : Prop :=
  ∀ s : State, Ready s →
    ∃ a t v, requestStep .enableTxwm s = .next a ∧ seqRun 2 a = .next t ∧
      t.uart = { s.uart with ieTxwm := true } ∧
      t.trace = s.trace ++ [.read s.params.map.uartIe v, .write s.params.map.uartIe (v ||| 1#32)] ∧
      t.plic = s.plic ∧ t.seq = s.seq ∧ t.core = s.core ∧ t.engine = s.engine

/-- R194, R195: the commands `claim()` and `complete(id)` are one access each, the claim and the complete. R200(b): claim,
complete of the claimed id, and claim again returns 0 when the claimed source was the only candidate and nothing became
pending in between. -/
def Obligations.ClaimCompleteClaimReturnsZero : Prop :=
  (∀ (s : State) (id : Word), Ready s →
    (∃ a c, requestStep .claim s = .next a ∧ exec .plicClaimR s = .next c ∧
        seqRun 1 a = .next { c with fg := { todo := [], v := BitVec.ofNat 32 c.rdata } }) ∧
      ∃ a c, requestStep (.complete id) s = .next a ∧ exec (.plicCompleteW id) s = .next c ∧
        seqRun 1 a = .next { c with fg := { todo := [], v := s.fg.v } }) ∧
    ∀ (s a b c : State), HandshakeOk s.plic →
      (∀ x y : Src, s.plic.candidate x = true → s.plic.candidate y = true → x = y) →
      exec .plicClaimR s = .next a → exec (.plicCompleteW (BitVec.ofNat 32 a.rdata)) a = .next b →
      exec .plicClaimR b = .next c →
      c.rdata = 0 ∧ b.plic.insvc = s.plic.insvc

/-- R197: completing another id leaves the claimed source in service, so the gateway holds it off, and releases that
other id. -/
def Obligations.WrongCompleteLeavesSourceLocked : Prop :=
  ∀ (s t : State) (x y : Src) (data : Word), s.plic.insvc[x] = true → x ≠ y → data.toNat = Src.id y →
    exec (.plicCompleteW data) s = .next t →
    t.plic.insvc[x] = true ∧ t.plic.insvc[y] = false ∧ agentStep (.gateway x) t = .next t

/-! ## The other agents -/

/-- R176: the gateway latches a source exactly when its line is high and it is neither pending nor in service; that the
event changes nothing otherwise is the model's form (assumption log 4). R46, R177: the line of a source other than UART0's
is the free input, which the environment sets without touching anything else; an event on UART0's own entry changes nothing
(assumption log 20). -/
def Obligations.GatewayLatchesIdleSource : Prop :=
  ∀ (s : State) (src : Src),
    (lineOf s src = true → s.plic.ip[src] = false → s.plic.insvc[src] = false →
      agentStep (.gateway src) s = .next { s with plic := { s.plic with ip := s.plic.ip.set src true } }) ∧
      (lineOf s src = false ∨ s.plic.ip[src] = true ∨ s.plic.insvc[src] = true →
        agentStep (.gateway src) s = .next s) ∧
      (src ≠ s.params.src.uart0 → lineOf s src = s.inputs.line[src]) ∧
      ∀ level : Bool,
        (src ≠ s.params.src.uart0 →
          agentStep (.setLine src level) s =
            .next { s with inputs := { s.inputs with line := s.inputs.line.set src level } }) ∧
          (src = s.params.src.uart0 → agentStep (.setLine src level) s = .next s) ∧
          agentStep (.setRxwm level) s = .next { s with inputs := { s.inputs with rxwm := level } }

/-- R236: the serializer sends the oldest byte, also while halted (R311); that the event changes nothing otherwise is the
model's form (assumption log 4). -/
def Obligations.SerializerSendsOldestByte : Prop :=
  ∀ s : State,
    (∀ (b : Byte) (rest : List Byte), s.uart.txen = true → s.uart.txfifo = b :: rest →
      agentStep .serialize s =
        .next { s with uart := { s.uart with txfifo := rest, txdOut := s.uart.txdOut ++ [b] } }) ∧
      (s.uart.txen = false ∨ s.uart.txfifo = [] → agentStep .serialize s = .next s)

/-- R48, R340: reset puts every piece of state at the value of the table, with any value where the table says unspecified
(of the cause word, its XLEN bits), and it is the only event that clears `halted`, `tx_overrun` and `nested_trap`. -/
def Obligations.ResetPutsTheTable : Prop :=
  (∀ (s : State) (u : PowerOn), ∃ t : State, agentStep (.reset u) s = .next t ∧
    t.seq.phase = .idle ∧ t.seq.halted = false ∧ t.seq.fatalReason = none ∧ t.seq.txOverrun = false ∧
    t.seq.nestedTrap = false ∧ t.core.tvecInstalled = false ∧ t.core.mie = false ∧
    (∀ src : Src, t.plic.ip[src] = false ∧ t.plic.insvc[src] = false) ∧
    t.uart =
      { txfifo := [], txdOut := [], txen := false, nstop := false, txcnt := 0#3, ieTxwm := false
        ieRxwm := false } ∧
    t.engine = { cursor := 0, rxCount := 0 } ∧ t.core.cause = u.cause % 2 ^ s.params.xlen ∧ t.core.tvec = u.tvec ∧
    (∀ b, b ≠ 3 → t.core.status.getLsbD b = u.status.getLsbD b) ∧ t.core.ie = u.ie ∧ t.core.epc = u.epc ∧
    t.core.sp = u.sp ∧ t.core.pc = u.pc ∧ t.params = s.params ∧ t.plic.prio = u.prio ∧ t.plic.ie = u.enable ∧ t.plic.thr = u.thr ∧
    t.seq.tc = u.tc ∧ t.seq.claimedId = u.claimedId ∧ t.seq.ipq = u.ipq ∧ t.seq.bn = u.bn ∧ t.seq.bi = u.bi ∧
    t.inputs = { line := u.line, rxwm := u.rxwm }) ∧
    ∀ (s t : State) (e : Event), (∀ u : PowerOn, e ≠ .reset u) → agentStep e s = .next t →
      (s.seq.halted = true → t.seq.halted = true ∧ t.seq.fatalReason = s.seq.fatalReason) ∧
        (s.seq.txOverrun = true → t.seq.txOverrun = true) ∧ (s.seq.nestedTrap = true → t.seq.nestedTrap = true)

/-! ## Decoding and the step -/

/-- A step of SEQ, which is the step of its phase in the state with that event taken, runs the transaction it fetches and
decodes: the cause word in phase DECODE, the foreground's raw transaction in phase IDLE; a transaction that the decoder
rejects is refused by that name. An operation that a command has named runs the same way. The queue of the foreground and
the latch of a word it read are the model's own (assumption log 12). -/
def Obligations.StepRunsTheDecodedTransaction : Prop :=
  ∀ s : State, nextEvent s = .seq → s.seq.halted = false →
    step s = seqStep (takeEvent s) ∧
      (∀ (x : Tx) (i : Instr), fetch s = some x → decode s.params x = .ok i → s.seq.phase = .decode →
        step s = exec i (takeEvent s)) ∧
      (∀ (x : Tx) (i : Instr) (m : Micro) (rest : List Micro), fetch s = some x → decode s.params x = .ok i →
        s.seq.phase = .idle → s.fg.todo = m :: rest →
        step s = andThen (exec i ((takeEvent s).start rest)) (latchRead i)) ∧
      (∀ (x : Tx) (e : Reject), fetch s = some x → decode s.params x = .error e →
        step s = .refused (Refusal.ofReject e)) ∧
      ∀ (i : Instr) (rest : List Micro), s.seq.phase = .idle → s.fg.todo = .op i :: rest →
        step s = andThen (exec i ((takeEvent s).start rest)) (latchRead i)

/-- R63, R65: the accesses the spec refuses are rejected by name; the array entries 0 and 53 to 63 are no register. Which
name a misaligned or unmapped access of another width gets is the model's choice (assumption log 14). An address that the
table of R64 marks "not modelled" is one of them. A control-register access that has no row is rejected as well: a write of
the cause register, a read of the trap vector, any other number (the model's reading, assumption log 15). -/
def Obligations.UnmappedAccessesAreRejected : Prop :=
  (∀ (p : Params) (dir : Dir) (addr data : Word) (width : Nat),
    (width ≠ 4 → decode p (.mmio dir addr width data) = .error .badWidth) ∧
      (addr.toNat % 4 ≠ 0 → decode p (.mmio dir addr 4 data) = .error .misaligned) ∧
      (addr.toNat % 4 = 0 →
        (addr ∈ p.map.unmodelled ∨
          ∀ r : Register, (∀ k : BitVec 6, r = .priority k → 1 ≤ k.toNat ∧ k.toNat ≤ 52) → p.map.addr r ≠ addr) →
        decode p (.mmio dir addr 4 data) = .error .unmapped)) ∧
    ∀ (p : Params) (dir : Dir) (n : BitVec 12) (data : Word), p.csr.wf = true →
      (dir = .W ∧ n = p.csr.cause) ∨ (dir = .R ∧ n = p.csr.tvec) ∨ (∀ c : Csr, p.csr.num c ≠ n) →
      decode p (.csr dir n data) = .error .noCsrOperation

/-- A few words written out from the formats of 30_encoding.md decode to the operations they stand for, at the default
parameters of R6 and R64: the literal addresses and register numbers are those defaults, which the spec marks as general
knowledge (PRESUMED, assumption log 23). -/
def Obligations.SampleWordsDecode : Prop :=
  decode Config.params (.cause 0x8000001B) = .ok .intExternal ∧
    decode Config.params (.cause 0x7FFFFFF3) = .ok .exc3 ∧
    decode Config.params (.mmio .W 0x0C00000C#32 4 0x00000004#32) = .ok (.plicPriorityW 3#6 0x00000004#32) ∧
    decode Config.params (.mmio .R 0x0C200004#32 4 0#32) = .ok .plicClaimR ∧
    decode Config.params (.mmio .R 0x10013014#32 4 0#32) = .ok .uart0IpR ∧
    decode Config.params (.csr .W 0x305#12 0x20400100#32) = .ok (.csrTvecW 0x20400100#32)

/-- Decoding the transaction of a well-formed operation gives it back, for every map of distinct aligned addresses and
every set of distinct register numbers. -/
def Obligations.DecodeInvertsEncode : Prop :=
  ∀ (p : Params) (i : Instr), p.xlenOk = true → p.map.wf = true → p.csr.wf = true → i.wf = true →
    decode p (encode p i) = .ok i

/-! ## Whole-machine rules -/

/-- Every step of every agent keeps the invariant (R37, R38, R45, R106, R248, R305). -/
def Obligations.EveryStepKeepsTheInvariant : Prop := ∀ s t : State, Inv s → step s = .next t → Inv t

/-- Reset establishes the invariant, for any well-formed parameters and any unspecified values, and at State.reset. -/
def Obligations.ResetEstablishesTheInvariant : Prop :=
  (∀ (p : Params) (u : PowerOn), p.wf = true → Inv (State.resetWith p u)) ∧ Inv State.reset

/-- R199: the state machine of one source. Outside reset, a source changes only from idle to pending by its gateway, from
pending to in service by a claim read that returns it as the winner, and from in service to idle by a complete of its id. -/
def Obligations.SourceStateMachine : Prop :=
  ∀ (s t : State) (e : Event) (src : Src), HandshakeOk s.plic → (∀ u : PowerOn, e ≠ .reset u) →
    agentStep e s = .next t →
    (t.plic.ip[src] = s.plic.ip[src] ∧ t.plic.insvc[src] = s.plic.insvc[src]) ∨
      (s.plic.ip[src] = false ∧ s.plic.insvc[src] = false ∧ t.plic.ip[src] = true ∧ t.plic.insvc[src] = false ∧
        e = .gateway src ∧ lineOf s src = true) ∨
      (s.plic.ip[src] = true ∧ s.plic.insvc[src] = false ∧ t.plic.ip[src] = false ∧ t.plic.insvc[src] = true ∧
        e = .seq ∧ IsWinner s.plic src ∧
        t.trace = s.trace ++ [.read s.params.map.claim (BitVec.ofNat 32 (Src.id src))]) ∨
      (s.plic.ip[src] = false ∧ s.plic.insvc[src] = true ∧ t.plic.ip[src] = false ∧ t.plic.insvc[src] = false ∧
        e = .seq ∧
        ∃ d : Word, d.toNat = Src.id src ∧ t.trace = s.trace ++ [.write s.params.map.claim d])

/-- R25, R311: while halted, and until reset, every step is a next state (the model's form, assumption log 9) in which
only pending bits, the FIFO with its history, and the free inputs may differ (that the pc stays is assumption log 7). -/
def Obligations.HaltIsSticky : Prop :=
  ∀ (s : State) (e : Event), s.seq.halted = true → (∀ u : PowerOn, e ≠ .reset u) →
    ∃ t : State, agentStep e s = .next t ∧ t.params = s.params ∧ t.seq = s.seq ∧ t.core = s.core ∧
      t.engine = s.engine ∧ t.fg = s.fg ∧ t.rdata = s.rdata ∧ t.trace = s.trace ∧ t.script = s.script ∧
      t.draws = s.draws ∧ t.plic.insvc = s.plic.insvc ∧ t.plic.ie = s.plic.ie ∧ t.plic.prio = s.plic.prio ∧
      t.plic.thr = s.plic.thr ∧ (∀ src : Src, s.plic.ip[src] = true → t.plic.ip[src] = true) ∧
      t.uart.txen = s.uart.txen ∧ t.uart.nstop = s.uart.nstop ∧ t.uart.txcnt = s.uart.txcnt ∧
      t.uart.ieTxwm = s.uart.ieTxwm ∧ t.uart.ieRxwm = s.uart.ieRxwm ∧
      t.uart.txdOut ++ t.uart.txfifo = s.uart.txdOut ++ s.uart.txfifo

/-- R45, R351: no operation of the table touches the refill engine or the free inputs, and in the foreground no step of
any agent but reset moves the cursor or the receive counter. -/
def Obligations.CursorBelongsToTheHandler : Prop :=
  (∀ (i : Instr) (s t : State), exec i s = .next t →
      t.engine = s.engine ∧ t.inputs = s.inputs ∧ t.params = s.params ∧ t.fg = s.fg) ∧
    ∀ (s t : State) (e : Event), s.seq.phase = .idle → (∀ u : PowerOn, e ≠ .reset u) →
      agentStep e s = .next t → t.engine = s.engine

/-- R305: no step but the return and reset changes MIE outside the foreground. -/
def Obligations.HandlerNeverReenablesInterrupts : Prop :=
  ∀ (s t : State) (e : Event), s.seq.phase ≠ .idle → t.seq.phase ≠ .idle → agentStep e s = .next t →
    t.core.mie = s.core.mie

/-- R356: a step of the handler writes none of the registers a command modifies, nor the command's own place, apart from
MIE and MPIE of the status register, which only the return writes. -/
def Obligations.HandlerKeepsCommandRegisters : Prop :=
  ∀ s t : State, s.seq.phase ≠ .idle → seqStep s = .next t →
    t.plic.ie = s.plic.ie ∧ t.plic.prio = s.plic.prio ∧ t.plic.thr = s.plic.thr ∧ t.core.ie = s.core.ie ∧
      t.core.tvec = s.core.tvec ∧ t.core.tvecInstalled = s.core.tvecInstalled ∧ t.core.sp = s.core.sp ∧
      (∀ b, b ≠ 3 → b ≠ 7 → t.core.status.getLsbD b = s.core.status.getLsbD b) ∧
      (s.seq.phase ≠ .ret → t.core.status = s.core.status) ∧ t.uart.ieTxwm = s.uart.ieTxwm ∧
      t.uart.ieRxwm = s.uart.ieRxwm ∧ t.uart.txen = s.uart.txen ∧ t.uart.nstop = s.uart.nstop ∧
      t.uart.txcnt = s.uart.txcnt ∧ t.fg = s.fg

/-- R67, R70: a step performs at most one access and only appends to the trace, until reset. -/
def Obligations.TraceGrowsByOneAccess : Prop :=
  ∀ (s t : State) (e : Event), (∀ u : PowerOn, e ≠ .reset u) → agentStep e s = .next t →
    t.trace = s.trace ∨ ∃ a : Access, t.trace = s.trace ++ [a]

/-- R40, R41, R236: the bytes sent followed by the bytes queued only grow at the end, by at most one byte a step, until
reset: the output is the accepted writes in order. -/
def Obligations.TransmittedBytesKeepTheirOrder : Prop :=
  ∀ (s t : State) (e : Event), (∀ u : PowerOn, e ≠ .reset u) → agentStep e s = .next t →
    (t.uart.txdOut ++ t.uart.txfifo = s.uart.txdOut ++ s.uart.txfifo ∨
        ∃ b : Byte, t.uart.txdOut ++ t.uart.txfifo = s.uart.txdOut ++ s.uart.txfifo ++ [b]) ∧
      s.uart.txdOut <+: t.uart.txdOut

/-- R281: once installed, the trap vector is the entry address and does not change, under the premise of R271 that the
foreground asks for no raw write of another vector (assumption log 27); and the only way out of the handler, reset apart,
is the trap return of phase RETURN. -/
def Obligations.InstalledVectorStays : Prop :=
  (∀ (s t : State) (e : Event), VectorOk s → keepsVector s.params e → (∀ u : PowerOn, e ≠ .reset u) →
    agentStep e s = .next t →
    VectorOk t ∧
      (s.core.tvecInstalled = true → t.core.tvecInstalled = true ∧ t.core.tvec = s.core.tvec)) ∧
    (∀ (p : Params) (u : PowerOn), VectorOk (State.resetWith p u)) ∧
    ∀ (s t : State) (e : Event), s.seq.phase ≠ .idle → (∀ u : PowerOn, e ≠ .reset u) → agentStep e s = .next t →
      t.seq.phase = .idle → e = .seq ∧ s.seq.halted = false ∧ s.seq.phase = .ret ∧ t.core.pc = s.core.epc
end

