-- ==== Sys2Proof/Laws/State.lean ====
section
/-! SUPPORT. One lemma per field of State per named update, each true by rfl, so that no proof unfolds a record update. -/

namespace Sys2Proof.Machine

@[simp] theorem State.setSeq_params (s : State) (q : SeqState) : (s.setSeq q).params = s.params := rfl
@[simp] theorem State.setSeq_seq (s : State) (q : SeqState) : (s.setSeq q).seq = q := rfl
@[simp] theorem State.setSeq_core (s : State) (q : SeqState) : (s.setSeq q).core = s.core := rfl
@[simp] theorem State.setSeq_plic (s : State) (q : SeqState) : (s.setSeq q).plic = s.plic := rfl
@[simp] theorem State.setSeq_uart (s : State) (q : SeqState) : (s.setSeq q).uart = s.uart := rfl
@[simp] theorem State.setSeq_engine (s : State) (q : SeqState) : (s.setSeq q).engine = s.engine := rfl
@[simp] theorem State.setSeq_inputs (s : State) (q : SeqState) : (s.setSeq q).inputs = s.inputs := rfl
@[simp] theorem State.setSeq_fg (s : State) (q : SeqState) : (s.setSeq q).fg = s.fg := rfl
@[simp] theorem State.setSeq_rdata (s : State) (q : SeqState) : (s.setSeq q).rdata = s.rdata := rfl
@[simp] theorem State.setSeq_trace (s : State) (q : SeqState) : (s.setSeq q).trace = s.trace := rfl
@[simp] theorem State.setSeq_script (s : State) (q : SeqState) : (s.setSeq q).script = s.script := rfl
@[simp] theorem State.setSeq_draws (s : State) (q : SeqState) : (s.setSeq q).draws = s.draws := rfl

@[simp] theorem State.setCore_params (s : State) (c : CoreState) : (s.setCore c).params = s.params := rfl
@[simp] theorem State.setCore_seq (s : State) (c : CoreState) : (s.setCore c).seq = s.seq := rfl
@[simp] theorem State.setCore_core (s : State) (c : CoreState) : (s.setCore c).core = c := rfl
@[simp] theorem State.setCore_plic (s : State) (c : CoreState) : (s.setCore c).plic = s.plic := rfl
@[simp] theorem State.setCore_uart (s : State) (c : CoreState) : (s.setCore c).uart = s.uart := rfl
@[simp] theorem State.setCore_engine (s : State) (c : CoreState) : (s.setCore c).engine = s.engine := rfl
@[simp] theorem State.setCore_inputs (s : State) (c : CoreState) : (s.setCore c).inputs = s.inputs := rfl
@[simp] theorem State.setCore_fg (s : State) (c : CoreState) : (s.setCore c).fg = s.fg := rfl
@[simp] theorem State.setCore_rdata (s : State) (c : CoreState) : (s.setCore c).rdata = s.rdata := rfl
@[simp] theorem State.setCore_trace (s : State) (c : CoreState) : (s.setCore c).trace = s.trace := rfl
@[simp] theorem State.setCore_script (s : State) (c : CoreState) : (s.setCore c).script = s.script := rfl
@[simp] theorem State.setCore_draws (s : State) (c : CoreState) : (s.setCore c).draws = s.draws := rfl

@[simp] theorem State.setPlic_params (s : State) (p : PlicState) : (s.setPlic p).params = s.params := rfl
@[simp] theorem State.setPlic_seq (s : State) (p : PlicState) : (s.setPlic p).seq = s.seq := rfl
@[simp] theorem State.setPlic_core (s : State) (p : PlicState) : (s.setPlic p).core = s.core := rfl
@[simp] theorem State.setPlic_plic (s : State) (p : PlicState) : (s.setPlic p).plic = p := rfl
@[simp] theorem State.setPlic_uart (s : State) (p : PlicState) : (s.setPlic p).uart = s.uart := rfl
@[simp] theorem State.setPlic_engine (s : State) (p : PlicState) : (s.setPlic p).engine = s.engine := rfl
@[simp] theorem State.setPlic_inputs (s : State) (p : PlicState) : (s.setPlic p).inputs = s.inputs := rfl
@[simp] theorem State.setPlic_fg (s : State) (p : PlicState) : (s.setPlic p).fg = s.fg := rfl
@[simp] theorem State.setPlic_rdata (s : State) (p : PlicState) : (s.setPlic p).rdata = s.rdata := rfl
@[simp] theorem State.setPlic_trace (s : State) (p : PlicState) : (s.setPlic p).trace = s.trace := rfl
@[simp] theorem State.setPlic_script (s : State) (p : PlicState) : (s.setPlic p).script = s.script := rfl
@[simp] theorem State.setPlic_draws (s : State) (p : PlicState) : (s.setPlic p).draws = s.draws := rfl

@[simp] theorem State.setUart_params (s : State) (u : UartState) : (s.setUart u).params = s.params := rfl
@[simp] theorem State.setUart_seq (s : State) (u : UartState) : (s.setUart u).seq = s.seq := rfl
@[simp] theorem State.setUart_core (s : State) (u : UartState) : (s.setUart u).core = s.core := rfl
@[simp] theorem State.setUart_plic (s : State) (u : UartState) : (s.setUart u).plic = s.plic := rfl
@[simp] theorem State.setUart_uart (s : State) (u : UartState) : (s.setUart u).uart = u := rfl
@[simp] theorem State.setUart_engine (s : State) (u : UartState) : (s.setUart u).engine = s.engine := rfl
@[simp] theorem State.setUart_inputs (s : State) (u : UartState) : (s.setUart u).inputs = s.inputs := rfl
@[simp] theorem State.setUart_fg (s : State) (u : UartState) : (s.setUart u).fg = s.fg := rfl
@[simp] theorem State.setUart_rdata (s : State) (u : UartState) : (s.setUart u).rdata = s.rdata := rfl
@[simp] theorem State.setUart_trace (s : State) (u : UartState) : (s.setUart u).trace = s.trace := rfl
@[simp] theorem State.setUart_script (s : State) (u : UartState) : (s.setUart u).script = s.script := rfl
@[simp] theorem State.setUart_draws (s : State) (u : UartState) : (s.setUart u).draws = s.draws := rfl

@[simp] theorem State.setEngine_params (s : State) (e : EngineState) : (s.setEngine e).params = s.params := rfl
@[simp] theorem State.setEngine_seq (s : State) (e : EngineState) : (s.setEngine e).seq = s.seq := rfl
@[simp] theorem State.setEngine_core (s : State) (e : EngineState) : (s.setEngine e).core = s.core := rfl
@[simp] theorem State.setEngine_plic (s : State) (e : EngineState) : (s.setEngine e).plic = s.plic := rfl
@[simp] theorem State.setEngine_uart (s : State) (e : EngineState) : (s.setEngine e).uart = s.uart := rfl
@[simp] theorem State.setEngine_engine (s : State) (e : EngineState) : (s.setEngine e).engine = e := rfl
@[simp] theorem State.setEngine_inputs (s : State) (e : EngineState) : (s.setEngine e).inputs = s.inputs := rfl
@[simp] theorem State.setEngine_fg (s : State) (e : EngineState) : (s.setEngine e).fg = s.fg := rfl
@[simp] theorem State.setEngine_rdata (s : State) (e : EngineState) : (s.setEngine e).rdata = s.rdata := rfl
@[simp] theorem State.setEngine_trace (s : State) (e : EngineState) : (s.setEngine e).trace = s.trace := rfl
@[simp] theorem State.setEngine_script (s : State) (e : EngineState) : (s.setEngine e).script = s.script := rfl
@[simp] theorem State.setEngine_draws (s : State) (e : EngineState) : (s.setEngine e).draws = s.draws := rfl

@[simp] theorem State.setInputs_params (s : State) (i : InputState) : (s.setInputs i).params = s.params := rfl
@[simp] theorem State.setInputs_seq (s : State) (i : InputState) : (s.setInputs i).seq = s.seq := rfl
@[simp] theorem State.setInputs_core (s : State) (i : InputState) : (s.setInputs i).core = s.core := rfl
@[simp] theorem State.setInputs_plic (s : State) (i : InputState) : (s.setInputs i).plic = s.plic := rfl
@[simp] theorem State.setInputs_uart (s : State) (i : InputState) : (s.setInputs i).uart = s.uart := rfl
@[simp] theorem State.setInputs_engine (s : State) (i : InputState) : (s.setInputs i).engine = s.engine := rfl
@[simp] theorem State.setInputs_inputs (s : State) (i : InputState) : (s.setInputs i).inputs = i := rfl
@[simp] theorem State.setInputs_fg (s : State) (i : InputState) : (s.setInputs i).fg = s.fg := rfl
@[simp] theorem State.setInputs_rdata (s : State) (i : InputState) : (s.setInputs i).rdata = s.rdata := rfl
@[simp] theorem State.setInputs_trace (s : State) (i : InputState) : (s.setInputs i).trace = s.trace := rfl
@[simp] theorem State.setInputs_script (s : State) (i : InputState) : (s.setInputs i).script = s.script := rfl
@[simp] theorem State.setInputs_draws (s : State) (i : InputState) : (s.setInputs i).draws = s.draws := rfl

@[simp] theorem State.setFg_params (s : State) (f : ForegroundState) : (s.setFg f).params = s.params := rfl
@[simp] theorem State.setFg_seq (s : State) (f : ForegroundState) : (s.setFg f).seq = s.seq := rfl
@[simp] theorem State.setFg_core (s : State) (f : ForegroundState) : (s.setFg f).core = s.core := rfl
@[simp] theorem State.setFg_plic (s : State) (f : ForegroundState) : (s.setFg f).plic = s.plic := rfl
@[simp] theorem State.setFg_uart (s : State) (f : ForegroundState) : (s.setFg f).uart = s.uart := rfl
@[simp] theorem State.setFg_engine (s : State) (f : ForegroundState) : (s.setFg f).engine = s.engine := rfl
@[simp] theorem State.setFg_inputs (s : State) (f : ForegroundState) : (s.setFg f).inputs = s.inputs := rfl
@[simp] theorem State.setFg_fg (s : State) (f : ForegroundState) : (s.setFg f).fg = f := rfl
@[simp] theorem State.setFg_rdata (s : State) (f : ForegroundState) : (s.setFg f).rdata = s.rdata := rfl
@[simp] theorem State.setFg_trace (s : State) (f : ForegroundState) : (s.setFg f).trace = s.trace := rfl
@[simp] theorem State.setFg_script (s : State) (f : ForegroundState) : (s.setFg f).script = s.script := rfl
@[simp] theorem State.setFg_draws (s : State) (f : ForegroundState) : (s.setFg f).draws = s.draws := rfl

@[simp] theorem State.setScript_params (s : State) (l : List Event) : (s.setScript l).params = s.params := rfl
@[simp] theorem State.setScript_seq (s : State) (l : List Event) : (s.setScript l).seq = s.seq := rfl
@[simp] theorem State.setScript_core (s : State) (l : List Event) : (s.setScript l).core = s.core := rfl
@[simp] theorem State.setScript_plic (s : State) (l : List Event) : (s.setScript l).plic = s.plic := rfl
@[simp] theorem State.setScript_uart (s : State) (l : List Event) : (s.setScript l).uart = s.uart := rfl
@[simp] theorem State.setScript_engine (s : State) (l : List Event) : (s.setScript l).engine = s.engine := rfl
@[simp] theorem State.setScript_inputs (s : State) (l : List Event) : (s.setScript l).inputs = s.inputs := rfl
@[simp] theorem State.setScript_fg (s : State) (l : List Event) : (s.setScript l).fg = s.fg := rfl
@[simp] theorem State.setScript_rdata (s : State) (l : List Event) : (s.setScript l).rdata = s.rdata := rfl
@[simp] theorem State.setScript_trace (s : State) (l : List Event) : (s.setScript l).trace = s.trace := rfl
@[simp] theorem State.setScript_script (s : State) (l : List Event) : (s.setScript l).script = l := rfl
@[simp] theorem State.setScript_draws (s : State) (l : List Event) : (s.setScript l).draws = s.draws := rfl

@[simp] theorem State.drawn_params (s : State) : (s.drawn).params = s.params := rfl
@[simp] theorem State.drawn_seq (s : State) : (s.drawn).seq = s.seq := rfl
@[simp] theorem State.drawn_core (s : State) : (s.drawn).core = s.core := rfl
@[simp] theorem State.drawn_plic (s : State) : (s.drawn).plic = s.plic := rfl
@[simp] theorem State.drawn_uart (s : State) : (s.drawn).uart = s.uart := rfl
@[simp] theorem State.drawn_engine (s : State) : (s.drawn).engine = s.engine := rfl
@[simp] theorem State.drawn_inputs (s : State) : (s.drawn).inputs = s.inputs := rfl
@[simp] theorem State.drawn_fg (s : State) : (s.drawn).fg = s.fg := rfl
@[simp] theorem State.drawn_rdata (s : State) : (s.drawn).rdata = s.rdata := rfl
@[simp] theorem State.drawn_trace (s : State) : (s.drawn).trace = s.trace := rfl
@[simp] theorem State.drawn_script (s : State) : (s.drawn).script = s.script := rfl
@[simp] theorem State.drawn_draws (s : State) : (s.drawn).draws = s.draws + 1 := rfl

@[simp] theorem State.record_params (s : State) (a : Access) : (s.record a).params = s.params := rfl
@[simp] theorem State.record_seq (s : State) (a : Access) : (s.record a).seq = s.seq := rfl
@[simp] theorem State.record_core (s : State) (a : Access) : (s.record a).core = s.core := rfl
@[simp] theorem State.record_plic (s : State) (a : Access) : (s.record a).plic = s.plic := rfl
@[simp] theorem State.record_uart (s : State) (a : Access) : (s.record a).uart = s.uart := rfl
@[simp] theorem State.record_engine (s : State) (a : Access) : (s.record a).engine = s.engine := rfl
@[simp] theorem State.record_inputs (s : State) (a : Access) : (s.record a).inputs = s.inputs := rfl
@[simp] theorem State.record_fg (s : State) (a : Access) : (s.record a).fg = s.fg := rfl
@[simp] theorem State.record_rdata (s : State) (a : Access) : (s.record a).rdata = s.rdata := rfl
@[simp] theorem State.record_trace (s : State) (a : Access) : (s.record a).trace = s.trace ++ [a] := rfl
@[simp] theorem State.record_script (s : State) (a : Access) : (s.record a).script = s.script := rfl
@[simp] theorem State.record_draws (s : State) (a : Access) : (s.record a).draws = s.draws := rfl

@[simp] theorem State.returns_params (s : State) (w : Nat) : (s.returns w).params = s.params := rfl
@[simp] theorem State.returns_seq (s : State) (w : Nat) : (s.returns w).seq = s.seq := rfl
@[simp] theorem State.returns_core (s : State) (w : Nat) : (s.returns w).core = s.core := rfl
@[simp] theorem State.returns_plic (s : State) (w : Nat) : (s.returns w).plic = s.plic := rfl
@[simp] theorem State.returns_uart (s : State) (w : Nat) : (s.returns w).uart = s.uart := rfl
@[simp] theorem State.returns_engine (s : State) (w : Nat) : (s.returns w).engine = s.engine := rfl
@[simp] theorem State.returns_inputs (s : State) (w : Nat) : (s.returns w).inputs = s.inputs := rfl
@[simp] theorem State.returns_fg (s : State) (w : Nat) : (s.returns w).fg = s.fg := rfl
@[simp] theorem State.returns_rdata (s : State) (w : Nat) : (s.returns w).rdata = w := rfl
@[simp] theorem State.returns_trace (s : State) (w : Nat) : (s.returns w).trace = s.trace := rfl
@[simp] theorem State.returns_script (s : State) (w : Nat) : (s.returns w).script = s.script := rfl
@[simp] theorem State.returns_draws (s : State) (w : Nat) : (s.returns w).draws = s.draws := rfl

@[simp] theorem State.memRead_params (s : State) (r : Register) (w : Word) : (s.memRead r w).params = s.params := rfl
@[simp] theorem State.memRead_seq (s : State) (r : Register) (w : Word) : (s.memRead r w).seq = s.seq := rfl
@[simp] theorem State.memRead_core (s : State) (r : Register) (w : Word) : (s.memRead r w).core = s.core := rfl
@[simp] theorem State.memRead_plic (s : State) (r : Register) (w : Word) : (s.memRead r w).plic = s.plic := rfl
@[simp] theorem State.memRead_uart (s : State) (r : Register) (w : Word) : (s.memRead r w).uart = s.uart := rfl
@[simp] theorem State.memRead_engine (s : State) (r : Register) (w : Word) : (s.memRead r w).engine = s.engine := rfl
@[simp] theorem State.memRead_inputs (s : State) (r : Register) (w : Word) : (s.memRead r w).inputs = s.inputs := rfl
@[simp] theorem State.memRead_fg (s : State) (r : Register) (w : Word) : (s.memRead r w).fg = s.fg := rfl
@[simp] theorem State.memRead_rdata (s : State) (r : Register) (w : Word) : (s.memRead r w).rdata = w.toNat := rfl
@[simp] theorem State.memRead_trace (s : State) (r : Register) (w : Word) : (s.memRead r w).trace = s.trace ++ [.read (s.params.map.addr r) w] := rfl
@[simp] theorem State.memRead_script (s : State) (r : Register) (w : Word) : (s.memRead r w).script = s.script := rfl
@[simp] theorem State.memRead_draws (s : State) (r : Register) (w : Word) : (s.memRead r w).draws = s.draws := rfl

@[simp] theorem State.memWrite_params (s : State) (r : Register) (w : Word) : (s.memWrite r w).params = s.params := rfl
@[simp] theorem State.memWrite_seq (s : State) (r : Register) (w : Word) : (s.memWrite r w).seq = s.seq := rfl
@[simp] theorem State.memWrite_core (s : State) (r : Register) (w : Word) : (s.memWrite r w).core = s.core := rfl
@[simp] theorem State.memWrite_plic (s : State) (r : Register) (w : Word) : (s.memWrite r w).plic = s.plic := rfl
@[simp] theorem State.memWrite_uart (s : State) (r : Register) (w : Word) : (s.memWrite r w).uart = s.uart := rfl
@[simp] theorem State.memWrite_engine (s : State) (r : Register) (w : Word) : (s.memWrite r w).engine = s.engine := rfl
@[simp] theorem State.memWrite_inputs (s : State) (r : Register) (w : Word) : (s.memWrite r w).inputs = s.inputs := rfl
@[simp] theorem State.memWrite_fg (s : State) (r : Register) (w : Word) : (s.memWrite r w).fg = s.fg := rfl
@[simp] theorem State.memWrite_rdata (s : State) (r : Register) (w : Word) : (s.memWrite r w).rdata = s.rdata := rfl
@[simp] theorem State.memWrite_trace (s : State) (r : Register) (w : Word) : (s.memWrite r w).trace = s.trace ++ [.write (s.params.map.addr r) w] := rfl
@[simp] theorem State.memWrite_script (s : State) (r : Register) (w : Word) : (s.memWrite r w).script = s.script := rfl
@[simp] theorem State.memWrite_draws (s : State) (r : Register) (w : Word) : (s.memWrite r w).draws = s.draws := rfl

@[simp] theorem State.csrRead_params (s : State) (c : Csr) (w : Nat) : (s.csrRead c w).params = s.params := rfl
@[simp] theorem State.csrRead_seq (s : State) (c : Csr) (w : Nat) : (s.csrRead c w).seq = s.seq := rfl
@[simp] theorem State.csrRead_core (s : State) (c : Csr) (w : Nat) : (s.csrRead c w).core = s.core := rfl
@[simp] theorem State.csrRead_plic (s : State) (c : Csr) (w : Nat) : (s.csrRead c w).plic = s.plic := rfl
@[simp] theorem State.csrRead_uart (s : State) (c : Csr) (w : Nat) : (s.csrRead c w).uart = s.uart := rfl
@[simp] theorem State.csrRead_engine (s : State) (c : Csr) (w : Nat) : (s.csrRead c w).engine = s.engine := rfl
@[simp] theorem State.csrRead_inputs (s : State) (c : Csr) (w : Nat) : (s.csrRead c w).inputs = s.inputs := rfl
@[simp] theorem State.csrRead_fg (s : State) (c : Csr) (w : Nat) : (s.csrRead c w).fg = s.fg := rfl
@[simp] theorem State.csrRead_rdata (s : State) (c : Csr) (w : Nat) : (s.csrRead c w).rdata = w := rfl
@[simp] theorem State.csrRead_trace (s : State) (c : Csr) (w : Nat) : (s.csrRead c w).trace = s.trace ++ [.csrRead (s.params.csr.num c) w] := rfl
@[simp] theorem State.csrRead_script (s : State) (c : Csr) (w : Nat) : (s.csrRead c w).script = s.script := rfl
@[simp] theorem State.csrRead_draws (s : State) (c : Csr) (w : Nat) : (s.csrRead c w).draws = s.draws := rfl

@[simp] theorem State.csrWrite_params (s : State) (c : Csr) (w : Word) : (s.csrWrite c w).params = s.params := rfl
@[simp] theorem State.csrWrite_seq (s : State) (c : Csr) (w : Word) : (s.csrWrite c w).seq = s.seq := rfl
@[simp] theorem State.csrWrite_core (s : State) (c : Csr) (w : Word) : (s.csrWrite c w).core = s.core := rfl
@[simp] theorem State.csrWrite_plic (s : State) (c : Csr) (w : Word) : (s.csrWrite c w).plic = s.plic := rfl
@[simp] theorem State.csrWrite_uart (s : State) (c : Csr) (w : Word) : (s.csrWrite c w).uart = s.uart := rfl
@[simp] theorem State.csrWrite_engine (s : State) (c : Csr) (w : Word) : (s.csrWrite c w).engine = s.engine := rfl
@[simp] theorem State.csrWrite_inputs (s : State) (c : Csr) (w : Word) : (s.csrWrite c w).inputs = s.inputs := rfl
@[simp] theorem State.csrWrite_fg (s : State) (c : Csr) (w : Word) : (s.csrWrite c w).fg = s.fg := rfl
@[simp] theorem State.csrWrite_rdata (s : State) (c : Csr) (w : Word) : (s.csrWrite c w).rdata = s.rdata := rfl
@[simp] theorem State.csrWrite_trace (s : State) (c : Csr) (w : Word) : (s.csrWrite c w).trace = s.trace ++ [.csrWrite (s.params.csr.num c) w] := rfl
@[simp] theorem State.csrWrite_script (s : State) (c : Csr) (w : Word) : (s.csrWrite c w).script = s.script := rfl
@[simp] theorem State.csrWrite_draws (s : State) (c : Csr) (w : Word) : (s.csrWrite c w).draws = s.draws := rfl

@[simp] theorem State.setPhase_params (s : State) (ph : Phase) : (s.setPhase ph).params = s.params := rfl
@[simp] theorem State.setPhase_seq (s : State) (ph : Phase) : (s.setPhase ph).seq = { s.seq with phase := ph } := rfl
@[simp] theorem State.setPhase_core (s : State) (ph : Phase) : (s.setPhase ph).core = s.core := rfl
@[simp] theorem State.setPhase_plic (s : State) (ph : Phase) : (s.setPhase ph).plic = s.plic := rfl
@[simp] theorem State.setPhase_uart (s : State) (ph : Phase) : (s.setPhase ph).uart = s.uart := rfl
@[simp] theorem State.setPhase_engine (s : State) (ph : Phase) : (s.setPhase ph).engine = s.engine := rfl
@[simp] theorem State.setPhase_inputs (s : State) (ph : Phase) : (s.setPhase ph).inputs = s.inputs := rfl
@[simp] theorem State.setPhase_fg (s : State) (ph : Phase) : (s.setPhase ph).fg = s.fg := rfl
@[simp] theorem State.setPhase_rdata (s : State) (ph : Phase) : (s.setPhase ph).rdata = s.rdata := rfl
@[simp] theorem State.setPhase_trace (s : State) (ph : Phase) : (s.setPhase ph).trace = s.trace := rfl
@[simp] theorem State.setPhase_script (s : State) (ph : Phase) : (s.setPhase ph).script = s.script := rfl
@[simp] theorem State.setPhase_draws (s : State) (ph : Phase) : (s.setPhase ph).draws = s.draws := rfl

@[simp] theorem State.raiseFatal_params (s : State) (r : FatalReason) : (s.raiseFatal r).params = s.params := rfl
@[simp] theorem State.raiseFatal_seq (s : State) (r : FatalReason) : (s.raiseFatal r).seq = { s.seq with halted := true, fatalReason := some r } := rfl
@[simp] theorem State.raiseFatal_core (s : State) (r : FatalReason) : (s.raiseFatal r).core = s.core := rfl
@[simp] theorem State.raiseFatal_plic (s : State) (r : FatalReason) : (s.raiseFatal r).plic = s.plic := rfl
@[simp] theorem State.raiseFatal_uart (s : State) (r : FatalReason) : (s.raiseFatal r).uart = s.uart := rfl
@[simp] theorem State.raiseFatal_engine (s : State) (r : FatalReason) : (s.raiseFatal r).engine = s.engine := rfl
@[simp] theorem State.raiseFatal_inputs (s : State) (r : FatalReason) : (s.raiseFatal r).inputs = s.inputs := rfl
@[simp] theorem State.raiseFatal_fg (s : State) (r : FatalReason) : (s.raiseFatal r).fg = s.fg := rfl
@[simp] theorem State.raiseFatal_rdata (s : State) (r : FatalReason) : (s.raiseFatal r).rdata = s.rdata := rfl
@[simp] theorem State.raiseFatal_trace (s : State) (r : FatalReason) : (s.raiseFatal r).trace = s.trace := rfl
@[simp] theorem State.raiseFatal_script (s : State) (r : FatalReason) : (s.raiseFatal r).script = s.script := rfl
@[simp] theorem State.raiseFatal_draws (s : State) (r : FatalReason) : (s.raiseFatal r).draws = s.draws := rfl

@[simp] theorem State.readCause_params (s : State) : (s.readCause).params = s.params := rfl
@[simp] theorem State.readCause_seq (s : State) : (s.readCause).seq = { s.seq with tc := trapCauseOf s.params s.core.cause } := rfl
@[simp] theorem State.readCause_core (s : State) : (s.readCause).core = s.core := rfl
@[simp] theorem State.readCause_plic (s : State) : (s.readCause).plic = s.plic := rfl
@[simp] theorem State.readCause_uart (s : State) : (s.readCause).uart = s.uart := rfl
@[simp] theorem State.readCause_engine (s : State) : (s.readCause).engine = s.engine := rfl
@[simp] theorem State.readCause_inputs (s : State) : (s.readCause).inputs = s.inputs := rfl
@[simp] theorem State.readCause_fg (s : State) : (s.readCause).fg = s.fg := rfl
@[simp] theorem State.readCause_rdata (s : State) : (s.readCause).rdata = s.core.cause := rfl
@[simp] theorem State.readCause_trace (s : State) : (s.readCause).trace = s.trace ++ [.csrRead (s.params.csr.num .cause) s.core.cause] := rfl
@[simp] theorem State.readCause_script (s : State) : (s.readCause).script = s.script := rfl
@[simp] theorem State.readCause_draws (s : State) : (s.readCause).draws = s.draws := rfl

@[simp] theorem State.start_params (s : State) (l : List Micro) : (s.start l).params = s.params := rfl
@[simp] theorem State.start_seq (s : State) (l : List Micro) : (s.start l).seq = s.seq := rfl
@[simp] theorem State.start_core (s : State) (l : List Micro) : (s.start l).core = s.core := rfl
@[simp] theorem State.start_plic (s : State) (l : List Micro) : (s.start l).plic = s.plic := rfl
@[simp] theorem State.start_uart (s : State) (l : List Micro) : (s.start l).uart = s.uart := rfl
@[simp] theorem State.start_engine (s : State) (l : List Micro) : (s.start l).engine = s.engine := rfl
@[simp] theorem State.start_inputs (s : State) (l : List Micro) : (s.start l).inputs = s.inputs := rfl
@[simp] theorem State.start_fg (s : State) (l : List Micro) : (s.start l).fg = { s.fg with todo := l } := rfl
@[simp] theorem State.start_rdata (s : State) (l : List Micro) : (s.start l).rdata = s.rdata := rfl
@[simp] theorem State.start_trace (s : State) (l : List Micro) : (s.start l).trace = s.trace := rfl
@[simp] theorem State.start_script (s : State) (l : List Micro) : (s.start l).script = s.script := rfl
@[simp] theorem State.start_draws (s : State) (l : List Micro) : (s.start l).draws = s.draws := rfl

@[simp] theorem State.trapEntry_params (s : State) (w : CauseWord) : (s.trapEntry w).params = s.params := rfl
@[simp] theorem State.trapEntry_seq (s : State) (w : CauseWord) : (s.trapEntry w).seq = { s.seq with phase := .decode } := rfl
@[simp] theorem State.trapEntry_core (s : State) (w : CauseWord) : (s.trapEntry w).core = { s.core with
      cause := w
      epc := s.core.pc
      status := withBit (withBit s.core.status 7 s.core.mie) 3 false
      pc := s.core.tvec } := rfl
@[simp] theorem State.trapEntry_plic (s : State) (w : CauseWord) : (s.trapEntry w).plic = s.plic := rfl
@[simp] theorem State.trapEntry_uart (s : State) (w : CauseWord) : (s.trapEntry w).uart = s.uart := rfl
@[simp] theorem State.trapEntry_engine (s : State) (w : CauseWord) : (s.trapEntry w).engine = s.engine := rfl
@[simp] theorem State.trapEntry_inputs (s : State) (w : CauseWord) : (s.trapEntry w).inputs = s.inputs := rfl
@[simp] theorem State.trapEntry_fg (s : State) (w : CauseWord) : (s.trapEntry w).fg = s.fg := rfl
@[simp] theorem State.trapEntry_rdata (s : State) (w : CauseWord) : (s.trapEntry w).rdata = s.rdata := rfl
@[simp] theorem State.trapEntry_trace (s : State) (w : CauseWord) : (s.trapEntry w).trace = s.trace := rfl
@[simp] theorem State.trapEntry_script (s : State) (w : CauseWord) : (s.trapEntry w).script = s.script := rfl
@[simp] theorem State.trapEntry_draws (s : State) (w : CauseWord) : (s.trapEntry w).draws = s.draws := rfl

@[simp] theorem State.trapReturn_params (s : State) : (s.trapReturn).params = s.params := rfl
@[simp] theorem State.trapReturn_seq (s : State) : (s.trapReturn).seq = { s.seq with phase := .idle } := rfl
@[simp] theorem State.trapReturn_core (s : State) : (s.trapReturn).core = { s.core with
      status := withBit (withBit s.core.status 3 s.core.mpie) 7 true
      pc := s.core.epc } := rfl
@[simp] theorem State.trapReturn_plic (s : State) : (s.trapReturn).plic = s.plic := rfl
@[simp] theorem State.trapReturn_uart (s : State) : (s.trapReturn).uart = s.uart := rfl
@[simp] theorem State.trapReturn_engine (s : State) : (s.trapReturn).engine = s.engine := rfl
@[simp] theorem State.trapReturn_inputs (s : State) : (s.trapReturn).inputs = s.inputs := rfl
@[simp] theorem State.trapReturn_fg (s : State) : (s.trapReturn).fg = s.fg := rfl
@[simp] theorem State.trapReturn_rdata (s : State) : (s.trapReturn).rdata = s.rdata := rfl
@[simp] theorem State.trapReturn_trace (s : State) : (s.trapReturn).trace = s.trace := rfl
@[simp] theorem State.trapReturn_script (s : State) : (s.trapReturn).script = s.script := rfl
@[simp] theorem State.trapReturn_draws (s : State) : (s.trapReturn).draws = s.draws := rfl

end Sys2Proof.Machine
end

