-- ==== Sys2Proof/Laws/Ops.lean ====
section
/-! SUPPORT. For each shared operation, what it can do, said once: the outcomes of guarded operations, the source ids, the
word layouts, the arbiter's step, the traps and the agents. -/

namespace Sys2Proof.Machine

/-! ## Outcomes -/

/-- `issue` answers a next state only for a running sequencer, and then the given one. -/
theorem issue_next_iff {s a t : State} : issue s a = .next t ↔ s.seq.halted = false ∧ a = t := by
  unfold issue
  cases h : s.seq.halted <;> simp

/-- A running sequencer issues. -/
theorem issue_of_running {s a : State} (h : s.seq.halted = false) : issue s a = .next a := by simp [issue, h]

/-- What follows an operation happens exactly after its next state. -/
theorem andThen_next_iff {o : Host.Outcome State Fault Refusal} {f : State → State} {t : State} :
    andThen o f = .next t ↔ ∃ u, o = .next u ∧ f u = t := by
  cases o <;> simp [andThen]

/-- The step DECODE answers a next state only for a running sequencer in phase DECODE: the action after the common read. -/
theorem decodeStep_next_iff {act : State → State} {s t : State} :
    decodeStep act s = .next t ↔ s.seq.halted = false ∧ s.seq.phase = .decode ∧ act s.readCause = t := by
  unfold decodeStep
  cases h : s.seq.halted <;> by_cases hp : s.seq.phase = .decode <;> simp [hp]

/-- The two choices of SYNC_ACTION, as one of two next states. -/
theorem syncAction_cases (c : Fin 12) (s : State) :
    (s.params.syncAction[c] = .fatal ∧ s.syncAction c = s.raiseFatal (.fatalException (BitVec.ofNat 4 c.val))) ∨
      (s.params.syncAction[c] = .ignore ∧ s.syncAction c = s.setPhase .ret) := by
  unfold State.syncAction
  cases h : s.params.syncAction[c] <;> simp

/-! ## Cause words -/

/-- TrapCause looks at the `XLEN` bits of a cause word only. -/
theorem trapCauseOf_causeBits {p : Params} (h : p.xlenOk = true) (w : Nat) :
    trapCauseOf p (p.causeBits w) = trapCauseOf p w := by
  have hx : 5 ≤ p.xlen := by simpa [Params.xlenOk] using h
  have hc : w % 2 ^ p.xlen % 2 ^ 4 = w % 2 ^ 4 := Nat.mod_mod_of_dvd w (Nat.pow_dvd_pow 2 (by omega))
  have hb : (w % 2 ^ p.xlen).testBit (p.xlen - 1) = w.testBit (p.xlen - 1) := by
    rw [Nat.testBit_mod_two_pow]
    simp only [show p.xlen - 1 < p.xlen by omega, decide_true, Bool.true_and]
  unfold trapCauseOf Params.causeBits
  rw [hb]
  congr 1
  exact BitVec.eq_of_toNat_eq (by simpa using hc)

/-- The cause word a trap entry stores has `XLEN` bits. -/
theorem causeBits_lt (p : Params) (w : Nat) : p.causeBits w < 2 ^ p.xlen := Nat.mod_lt _ (Nat.two_pow_pos _)

/-- A cause word of `XLEN` bits is stored as it is. -/
theorem causeBits_of_lt {p : Params} {w : Nat} (h : w < 2 ^ p.xlen) : p.causeBits w = w := Nat.mod_eq_of_lt h

/-- The operation of a cause word depends on its TrapCause alone (R92, R93). -/
theorem decodeCause_congr {p q : Params} {w v : CauseWord} (h : trapCauseOf p w = trapCauseOf q v) :
    decodeCause p w = decodeCause q v := by simp only [decodeCause, h]

/-- TrapCause of the interrupt word of a code. -/
theorem trapCauseOf_interruptWord {p : Params} (h : p.xlenOk = true) {code : Nat} (hc : code < 16) :
    trapCauseOf p (p.interruptWord code) = { isInterrupt := true, code := BitVec.ofNat 4 code } := by
  have hx : 5 ≤ p.xlen := by simpa [Params.xlenOk] using h
  have hp : 2 ^ 4 ≤ 2 ^ (p.xlen - 1) := Nat.pow_le_pow_right (by omega) (by omega)
  have hd : 2 ^ 4 ∣ 2 ^ (p.xlen - 1) := Nat.pow_dvd_pow 2 (by omega)
  have hb : (2 ^ (p.xlen - 1) + code).testBit (p.xlen - 1) = true := by
    rw [Nat.testBit_two_pow_add_eq, Nat.testBit_lt_two_pow (by omega)]
    rfl
  have hm : (2 ^ (p.xlen - 1) + code) % 2 ^ 4 = code % 2 ^ 4 := by
    rw [Nat.add_mod, Nat.mod_eq_zero_of_dvd hd, Nat.zero_add, Nat.mod_mod]
  unfold trapCauseOf Params.interruptWord
  rw [hb]
  congr 1
  exact BitVec.eq_of_toNat_eq (by simpa using hm)

/-- TrapCause of the exception word of a code. -/
theorem trapCauseOf_exceptionWord {p : Params} (h : p.xlenOk = true) {code : Nat} (hc : code < 16) :
    trapCauseOf p code = { isInterrupt := false, code := BitVec.ofNat 4 code } := by
  have hx : 5 ≤ p.xlen := by simpa [Params.xlenOk] using h
  have hp : 2 ^ 4 ≤ 2 ^ (p.xlen - 1) := Nat.pow_le_pow_right (by omega) (by omega)
  unfold trapCauseOf
  rw [Nat.testBit_lt_two_pow (by omega)]

/-! ## Source ids -/

/-- The source of an id is the one whose id it is. -/
theorem srcOfId_eq_some_iff {n : Nat} {s : Src} : srcOfId n = some s ↔ Src.id s = n := by
  unfold srcOfId Src.id
  constructor
  · intro h
    split at h
    · rename_i hn
      have := congrArg (Option.map Fin.val) h
      simp at this
      omega
    · simp at h
  · intro h
    have : 1 ≤ n ∧ n ≤ 52 := by omega
    simp only [this, and_self, dite_true, Option.some.injEq]
    ext
    simp
    omega

/-- No source has an id outside 1..52. -/
theorem srcOfId_eq_none_iff {n : Nat} : srcOfId n = none ↔ n = 0 ∨ 52 < n := by
  unfold srcOfId
  by_cases h : 1 ≤ n ∧ n ≤ 52
  · simp only [h, and_self, dite_true, reduceCtorEq, false_iff]
    omega
  · simp only [h, dite_false, true_iff]
    omega

@[simp] theorem srcOfId_id (s : Src) : srcOfId (Src.id s) = some s := srcOfId_eq_some_iff.2 rfl

/-- Ids are 1..52. -/
theorem id_bounds (s : Src) : 1 ≤ Src.id s ∧ Src.id s ≤ 52 := by
  unfold Src.id
  omega

/-- A source is its id. -/
theorem id_inj {a b : Src} (h : Src.id a = Src.id b) : a = b := by
  unfold Src.id at h
  exact Fin.ext (by omega)

/-! ## Word layouts -/

/-- A word of a table has the entry at position 32*k + b in bit b. -/
theorem tableWord_getLsbD (k : Nat) (t : Table Bool) (b : Nat) (hb : b < 32) :
    (tableWord k t).getLsbD b = tableBit t (32 * k + b) := by simp [tableWord, hb]

@[simp] theorem tableBit_id (t : Table Bool) (s : Src) : tableBit t (Src.id s) = t[s] := by simp [tableBit]

/-- A position that is no source reads 0. -/
theorem tableBit_none (t : Table Bool) {n : Nat} (h : n = 0 ∨ 52 < n) : tableBit t n = false := by
  simp [tableBit, srcOfId_eq_none_iff.2 h]

/-- A write of a word of a table replaces the entries of that word and no other. -/
theorem tableWithWord_get (k : Nat) (t : Table Bool) (data : Word) (s : Src) :
    (tableWithWord k t data)[s] = if Src.id s / 32 = k then data.getLsbD (Src.id s % 32) else t[s] := by
  simp [tableWithWord]

/-- Setting a bit of a word changes that bit and no other. -/
theorem withBit_getLsbD (w : Word) (i : Nat) (b : Bool) (j : Nat) (hj : j < 32) :
    (withBit w i b).getLsbD j = if j = i then b else w.getLsbD j := by
  have hbit : (1#32 <<< i).getLsbD j = decide (j = i) := by
    by_cases hij : j = i
    · subst hij
      simp [hj]
    · have : ¬(i ≤ j ∧ j - i = 0) := by omega
      by_cases hlt : j < i
      · simp [hlt, hij]
      · have h0 : ¬(j - i = 0) := by omega
        simp [hj, hij, hlt, h0]
  unfold withBit
  cases b
  · rw [if_neg (by simp), BitVec.getLsbD_and, BitVec.getLsbD_not, hbit]
    by_cases hij : j = i <;> simp [hij, hj]
  · rw [if_pos rfl, BitVec.getLsbD_or, hbit]
    by_cases hij : j = i <;> simp [hij]

/-- The block's bits of a control register after a write are the written ones. -/
theorem mergeCore_in (mask held data free : Word) (j : Nat) (hj : mask.getLsbD j = true) :
    (mergeCore mask held data free).getLsbD j = data.getLsbD j := by
  unfold mergeCore
  split
  · rfl
  · rw [BitVec.getLsbD_or, BitVec.getLsbD_and, BitVec.getLsbD_and, BitVec.getLsbD_not, hj]
    simp

/-- A write that returns the other bits as held keeps them. -/
theorem mergeCore_keeps (mask held data free : Word) (h : data &&& ~~~mask = held &&& ~~~mask) :
    mergeCore mask held data free = data := by simp [mergeCore, h]

/-! ## PLIC -/

/-- The claim's effect on the pending bits. -/
theorem claimWinner_ip (p : PlicState) (s : Src) :
    p.claimWinner.ip[s] = if p.winner = some s then false else p.ip[s] := by
  unfold PlicState.claimWinner
  cases h : p.winner with
  | none => simp
  | some w =>
    by_cases hw : w = s
    · subst hw; simp
    · have : w.val ≠ s.val := fun e => hw (Fin.ext e)
      simp [hw, this]

/-- The claim's effect on the in-service bits. -/
theorem claimWinner_insvc (p : PlicState) (s : Src) :
    p.claimWinner.insvc[s] = if p.winner = some s then true else p.insvc[s] := by
  unfold PlicState.claimWinner
  cases h : p.winner with
  | none => simp
  | some w =>
    by_cases hw : w = s
    · subst hw; simp
    · have : w.val ≠ s.val := fun e => hw (Fin.ext e)
      simp [hw, this]

/-- The claim touches nothing else of the PLIC. -/
theorem claimWinner_rest (p : PlicState) :
    p.claimWinner.prio = p.prio ∧ p.claimWinner.ie = p.ie ∧ p.claimWinner.thr = p.thr := by
  unfold PlicState.claimWinner
  cases p.winner <;> simp

/-- The complete's effect: one in-service bit, and nothing else of the PLIC. -/
theorem completeId_insvc (p : PlicState) (n : Nat) (s : Src) :
    (p.completeId n).insvc[s] = if Src.id s = n then false else p.insvc[s] := by
  unfold PlicState.completeId
  cases h : srcOfId n with
  | none =>
    have h' := srcOfId_eq_none_iff.1 h
    have := id_bounds s
    have hne : Src.id s ≠ n := by omega
    simp [hne]
  | some w =>
    have hw := srcOfId_eq_some_iff.1 h
    by_cases hs : w = s
    · subst hs; simp [hw]
    · have hv : w.val ≠ s.val := fun e => hs (Fin.ext e)
      have hne : Src.id s ≠ n := fun e => hs (id_inj (hw.trans e.symm))
      simp [hne, hv]

theorem completeId_rest (p : PlicState) (n : Nat) :
    (p.completeId n).prio = p.prio ∧ (p.completeId n).ip = p.ip ∧ (p.completeId n).ie = p.ie ∧
      (p.completeId n).thr = p.thr := by
  unfold PlicState.completeId
  cases srcOfId n <;> simp

/-- The gateway's latch sets one pending bit. -/
theorem latch_ip (p : PlicState) (w s : Src) : (p.latch w).ip[s] = if w = s then true else p.ip[s] := by
  unfold PlicState.latch
  by_cases h : w = s
  · subst h; simp
  · have : w.val ≠ s.val := fun e => h (Fin.ext e)
    simp [h, this]

/-- One source considered by the arbiter: it stays out, or it is the first, or it wins, or it loses. -/
theorem arbitrate_cases (p : PlicState) (best : Option Src) (s : Src) :
    (p.candidate s = false ∧ p.arbitrate best s = best) ∨
      (p.candidate s = true ∧
        ((best = none ∧ p.arbitrate best s = some s) ∨
          (∃ b, best = some b ∧ p.prio[b] < p.prio[s] ∧ p.arbitrate best s = some s) ∨
            (∃ b, best = some b ∧ ¬p.prio[b] < p.prio[s] ∧ p.arbitrate best s = some b))) := by
  unfold PlicState.arbitrate
  cases hc : p.candidate s with
  | false => exact .inl ⟨rfl, by simp⟩
  | true =>
    refine .inr ⟨rfl, ?_⟩
    cases best with
    | none => exact .inl ⟨rfl, by simp⟩
    | some b =>
      by_cases h : p.prio[b] < p.prio[s]
      · exact .inr (.inl ⟨b, rfl, h, if_pos h⟩)
      · exact .inr (.inr ⟨b, rfl, h, if_neg h⟩)

/-! ## UART -/

/-- A push queues its byte where there is room, else drops it with the overrun flag. -/
theorem pushByte_cases (s : State) (b : Byte) :
    (s.uart.txfifo.length < s.params.txDepth ∧
        s.pushByte b = s.setUart { s.uart with txfifo := s.uart.txfifo ++ [b] }) ∨
      (¬s.uart.txfifo.length < s.params.txDepth ∧ s.pushByte b = s.setSeq { s.seq with txOverrun := true }) := by
  unfold State.pushByte
  by_cases h : s.uart.txfifo.length < s.params.txDepth <;> simp [h]

/-! ## Traps and agents -/

/-- A delivery is ignored, flagged as nested, or taken. -/
theorem deliverTrap_next_cases {w : CauseWord} {s t : State} (h : deliverTrap w s = .next t) :
    ((s.seq.halted = true ∨ admitted s.params s.core w = false) ∧ t = s) ∨
      (s.seq.halted = false ∧ admitted s.params s.core w = true ∧ s.seq.phase ≠ .idle ∧
        t = s.setSeq { s.seq with nestedTrap := true }) ∨
        (s.seq.halted = false ∧ admitted s.params s.core w = true ∧ s.seq.phase = .idle ∧ s.core.tvecInstalled = true ∧
          t = s.trapEntry (s.params.causeBits w)) := by
  unfold deliverTrap at h
  split at h
  · rename_i hd
    cases h
    simp only [Bool.or_eq_true, Bool.not_eq_true'] at hd
    exact .inl ⟨hd, rfl⟩
  · rename_i hd
    simp only [Bool.or_eq_true, Bool.not_eq_true', not_or, Bool.not_eq_true, Bool.not_eq_false] at hd
    split at h
    · rename_i hp
      cases h
      exact .inr (.inl ⟨hd.1, hd.2, hp, rfl⟩)
    · rename_i hp
      split at h
      · rename_i hv
        cases h
        exact .inr (.inr ⟨hd.1, hd.2, not_not.1 hp, hv, rfl⟩)
      · cases h

/-- A gateway step latches its source or changes nothing. -/
theorem gatewayStep_cases (src : Src) (s : State) :
    (gatewayEnabled s src = true ∧ gatewayStep src s = s.setPlic (s.plic.latch src)) ∨
      (gatewayEnabled s src = false ∧ gatewayStep src s = s) := by
  unfold gatewayStep
  cases h : gatewayEnabled s src <;> simp

/-- A serializer step sends the oldest byte or changes nothing. -/
theorem serializerStep_cases (s : State) :
    (∃ b rest, s.uart.txen = true ∧ s.uart.txfifo = b :: rest ∧
        serializerStep s = s.setUart { s.uart with txfifo := rest, txdOut := s.uart.txdOut ++ [b] }) ∨
      (serializerEnabled s.uart = false ∧ serializerStep s = s) := by
  unfold serializerStep serializerEnabled
  cases ht : s.uart.txen <;> cases hf : s.uart.txfifo <;> simp

/-- A step is the next event happening. -/
theorem step_of_script {s : State} {e : Event} {rest : List Event} (h : s.script = e :: rest) :
    step s = agentStep e (s.setScript rest) := by simp [step, nextEvent, takeEvent, h]

end Sys2Proof.Machine
end

