-- ==== Sys2Proof/Laws/PerInstr.lean ====
section
/-! SUPPORT. The per-instruction law `SelectsRow`: the transaction the encoder writes for a well-formed operation is
selected by that operation's row of spec/opcode_table.json, that is, `(word AND mask) = match` with the row's format and
direction (R111). -/

namespace Sys2Proof.Laws.SelectsRow

/-- A row of spec/opcode_table.json: its format and direction, match and mask. -/
inductive Row where
  | cause (word : Word)
  | mmio (dir : Dir) (addr mask : Word)
  | csr (dir : Dir) (n : BitVec 12)
deriving DecidableEq, Repr

/-- The row of an operation, as spec/opcode_table.json gives it. -/
def rowOf : Instr → Row
  | .intReserved0 => .cause 0x80000000#32
  | .intReserved1 => .cause 0x80000001#32
  | .intReserved2 => .cause 0x80000002#32
  | .intSoftware => .cause 0x80000003#32
  | .intReserved4 => .cause 0x80000004#32
  | .intReserved5 => .cause 0x80000005#32
  | .intReserved6 => .cause 0x80000006#32
  | .intTimer => .cause 0x80000007#32
  | .intReserved8 => .cause 0x80000008#32
  | .intReserved9 => .cause 0x80000009#32
  | .intReserved10 => .cause 0x8000000A#32
  | .intExternal => .cause 0x8000000B#32
  | .intReserved12 => .cause 0x8000000C#32
  | .intReserved13 => .cause 0x8000000D#32
  | .intReserved14 => .cause 0x8000000E#32
  | .intReserved15 => .cause 0x8000000F#32
  | .exc0 => .cause 0x00000000#32
  | .exc1 => .cause 0x00000001#32
  | .exc2 => .cause 0x00000002#32
  | .exc3 => .cause 0x00000003#32
  | .exc4 => .cause 0x00000004#32
  | .exc5 => .cause 0x00000005#32
  | .exc6 => .cause 0x00000006#32
  | .exc7 => .cause 0x00000007#32
  | .exc8 => .cause 0x00000008#32
  | .exc9 => .cause 0x00000009#32
  | .exc10 => .cause 0x0000000A#32
  | .exc11 => .cause 0x0000000B#32
  | .excReserved12 => .cause 0x0000000C#32
  | .excReserved13 => .cause 0x0000000D#32
  | .excReserved14 => .cause 0x0000000E#32
  | .excReserved15 => .cause 0x0000000F#32
  | .plicPriorityR _ => .mmio .R 0x0C000000#32 0xFFFFFF03#32
  | .plicPriorityW _ _ => .mmio .W 0x0C000000#32 0xFFFFFF03#32
  | .plicPending0R => .mmio .R 0x0C001000#32 0xFFFFFFFF#32
  | .plicPending1R => .mmio .R 0x0C001004#32 0xFFFFFFFF#32
  | .plicPending0W _ => .mmio .W 0x0C001000#32 0xFFFFFFFF#32
  | .plicPending1W _ => .mmio .W 0x0C001004#32 0xFFFFFFFF#32
  | .plicEnable0R => .mmio .R 0x0C002000#32 0xFFFFFFFF#32
  | .plicEnable0W _ => .mmio .W 0x0C002000#32 0xFFFFFFFF#32
  | .plicEnable1R => .mmio .R 0x0C002004#32 0xFFFFFFFF#32
  | .plicEnable1W _ => .mmio .W 0x0C002004#32 0xFFFFFFFF#32
  | .plicThresholdR => .mmio .R 0x0C200000#32 0xFFFFFFFF#32
  | .plicThresholdW _ => .mmio .W 0x0C200000#32 0xFFFFFFFF#32
  | .plicClaimR => .mmio .R 0x0C200004#32 0xFFFFFFFF#32
  | .plicCompleteW _ => .mmio .W 0x0C200004#32 0xFFFFFFFF#32
  | .uart0TxdataW _ => .mmio .W 0x10013000#32 0xFFFFFFFF#32
  | .uart0TxdataR => .mmio .R 0x10013000#32 0xFFFFFFFF#32
  | .uart0IpR => .mmio .R 0x10013014#32 0xFFFFFFFF#32
  | .uart0IpW _ => .mmio .W 0x10013014#32 0xFFFFFFFF#32
  | .uart0IeR => .mmio .R 0x10013010#32 0xFFFFFFFF#32
  | .uart0IeW _ => .mmio .W 0x10013010#32 0xFFFFFFFF#32
  | .uart0TxctrlR => .mmio .R 0x10013008#32 0xFFFFFFFF#32
  | .uart0TxctrlW _ => .mmio .W 0x10013008#32 0xFFFFFFFF#32
  | .csrCauseR => .csr .R 0x342#12
  | .csrTvecW _ => .csr .W 0x305#12
  | .csrStatusR => .csr .R 0x300#12
  | .csrStatusW _ => .csr .W 0x300#12
  | .csrIeR => .csr .R 0x304#12
  | .csrIeW _ => .csr .W 0x304#12

/-- Selection of a row by a transaction (R111); every cause row has the mask 0x8000000F (R93). -/
def selects : Row → Tx → Bool
  | .cause word, .cause w => w &&& 0x8000000F == word.toNat
  | .mmio dir addr mask, .mmio d a width _ => dir == d && a &&& mask == addr && width == 4
  | .csr dir n, .csr d k _ => dir == d && n == k
  | .cause _, .mmio _ _ _ _ => false
  | .cause _, .csr _ _ _ => false
  | .mmio _ _ _, .cause _ => false
  | .mmio _ _ _, .csr _ _ _ => false
  | .csr _ _, .cause _ => false
  | .csr _ _, .mmio _ _ _ _ => false

/-- The law: under the default parameters the operation's transaction selects its row. -/
def Statement (i : Instr) : Prop := i.wf = true → selects (rowOf i) (encode Config.params i) = true

theorem intReserved0 : Statement .intReserved0 := fun _ => rfl

theorem intReserved1 : Statement .intReserved1 := fun _ => rfl

theorem intReserved2 : Statement .intReserved2 := fun _ => rfl

theorem intSoftware : Statement .intSoftware := fun _ => rfl

theorem intReserved4 : Statement .intReserved4 := fun _ => rfl

theorem intReserved5 : Statement .intReserved5 := fun _ => rfl

theorem intReserved6 : Statement .intReserved6 := fun _ => rfl

theorem intTimer : Statement .intTimer := fun _ => rfl

theorem intReserved8 : Statement .intReserved8 := fun _ => rfl

theorem intReserved9 : Statement .intReserved9 := fun _ => rfl

theorem intReserved10 : Statement .intReserved10 := fun _ => rfl

theorem intExternal : Statement .intExternal := fun _ => rfl

theorem intReserved12 : Statement .intReserved12 := fun _ => rfl

theorem intReserved13 : Statement .intReserved13 := fun _ => rfl

theorem intReserved14 : Statement .intReserved14 := fun _ => rfl

theorem intReserved15 : Statement .intReserved15 := fun _ => rfl

theorem exc0 : Statement .exc0 := fun _ => rfl

theorem exc1 : Statement .exc1 := fun _ => rfl

theorem exc2 : Statement .exc2 := fun _ => rfl

theorem exc3 : Statement .exc3 := fun _ => rfl

theorem exc4 : Statement .exc4 := fun _ => rfl

theorem exc5 : Statement .exc5 := fun _ => rfl

theorem exc6 : Statement .exc6 := fun _ => rfl

theorem exc7 : Statement .exc7 := fun _ => rfl

theorem exc8 : Statement .exc8 := fun _ => rfl

theorem exc9 : Statement .exc9 := fun _ => rfl

theorem exc10 : Statement .exc10 := fun _ => rfl

theorem exc11 : Statement .exc11 := fun _ => rfl

theorem excReserved12 : Statement .excReserved12 := fun _ => rfl

theorem excReserved13 : Statement .excReserved13 := fun _ => rfl

theorem excReserved14 : Statement .excReserved14 := fun _ => rfl

theorem excReserved15 : Statement .excReserved15 := fun _ => rfl

theorem plicPriorityR (s : BitVec 6) : Statement (.plicPriorityR s) := by
  revert s
  unfold Statement
  decide +kernel

theorem plicPriorityW (s : BitVec 6) (data : Word) : Statement (.plicPriorityW s data) := by
  intro h
  exact plicPriorityR s h

theorem plicPending0R : Statement .plicPending0R := fun _ => rfl

theorem plicPending1R : Statement .plicPending1R := fun _ => rfl

theorem plicPending0W (data : Word) : Statement (.plicPending0W data) := fun _ => rfl

theorem plicPending1W (data : Word) : Statement (.plicPending1W data) := fun _ => rfl

theorem plicEnable0R : Statement .plicEnable0R := fun _ => rfl

theorem plicEnable0W (data : Word) : Statement (.plicEnable0W data) := fun _ => rfl

theorem plicEnable1R : Statement .plicEnable1R := fun _ => rfl

theorem plicEnable1W (data : Word) : Statement (.plicEnable1W data) := fun _ => rfl

theorem plicThresholdR : Statement .plicThresholdR := fun _ => rfl

theorem plicThresholdW (data : Word) : Statement (.plicThresholdW data) := fun _ => rfl

theorem plicClaimR : Statement .plicClaimR := fun _ => rfl

theorem plicCompleteW (data : Word) : Statement (.plicCompleteW data) := fun _ => rfl

theorem uart0TxdataW (data : Word) : Statement (.uart0TxdataW data) := fun _ => rfl

theorem uart0TxdataR : Statement .uart0TxdataR := fun _ => rfl

theorem uart0IpR : Statement .uart0IpR := fun _ => rfl

theorem uart0IpW (data : Word) : Statement (.uart0IpW data) := fun _ => rfl

theorem uart0IeR : Statement .uart0IeR := fun _ => rfl

theorem uart0IeW (data : Word) : Statement (.uart0IeW data) := fun _ => rfl

theorem uart0TxctrlR : Statement .uart0TxctrlR := fun _ => rfl

theorem uart0TxctrlW (data : Word) : Statement (.uart0TxctrlW data) := fun _ => rfl

theorem csrCauseR : Statement .csrCauseR := fun _ => rfl

theorem csrTvecW (data : Word) : Statement (.csrTvecW data) := fun _ => rfl

theorem csrStatusR : Statement .csrStatusR := fun _ => rfl

theorem csrStatusW (data : Word) : Statement (.csrStatusW data) := fun _ => rfl

theorem csrIeR : Statement .csrIeR := fun _ => rfl

theorem csrIeW (data : Word) : Statement (.csrIeW data) := fun _ => rfl

end Sys2Proof.Laws.SelectsRow
end

