-- ==== Sys2Proof/Tests/Slice0.lean ====
section
/-! SUPPORT. Tests on fixed values, each one step on a small state: the ill-formed terms that WellFormed refuses, the
decoding of words written out from 30_encoding.md, the vectors V410 to V420 of 95_test_vectors.md (the source of every
expected value below), and for every statement with hypotheses a state that meets them (`witness_`). -/

namespace Sys2Proof.Tests

set_option Elab.async false

open Sys2Proof.Machine Sys2Proof.Safety Sys2Proof.Claims

/-- The parameters of 95_test_vectors.md: L = 21, B = 5, the message "A" to "U". -/
def params : Params :=
  { Config.params with
    msg := (List.range 21).map fun i => BitVec.ofNat 8 (0x41 + i)
    burst := 5
    handlerEntry := 0x20400100#32
    stackTop := 0x80004000#32 }

/-- The parameters with every exception ignored (V411). -/
def ignoring : Params := { params with syncAction := Vector.replicate 12 .ignore }

/-- A table that is set at one id. -/
def only {α : Type} (id : Src) (x other : α) : Table α := Vector.ofFn fun s => if s = id then x else other

/-- The start state of V421, with source 3 (UART0) pending: index 2. -/
def base : State :=
  { State.resetWith params PowerOn.zero with
    core :=
      { (State.resetWith params PowerOn.zero).core with
        status := 0x8#32, ie := 0x800#32, tvec := 0x20400100#32, tvecInstalled := true, pc := 0x20400400#32 }
    plic := { prio := only 2 4#3 0#3, ip := only 2 true false, ie := only 2 true false, thr := 3#3
              insvc := Vector.replicate 52 false }
    uart := { txfifo := [], txdOut := [], txen := true, nstop := false, txcnt := 1#3, ieTxwm := true
              ieRxwm := false } }

/-- A state in a phase of the handler: interrupts off, MPIE set, the cause word in the cause register. -/
def inPhase (ph : Phase) (w : CauseWord) : State :=
  { base with
    seq := { base.seq with phase := ph }
    core := { base.core with status := 0x80#32, cause := w, epc := 0x20400400#32 } }

/-- Source 3 claimed and in service, in a phase that serves it. -/
def servingIn (ph : Phase) : State :=
  { inPhase ph 0x8000000B with
    seq := { base.seq with phase := ph, claimedId := 3#32, bn := 5 }
    plic := { base.plic with ip := Vector.replicate 52 false, insvc := only 2 true false } }

/-- A halted state. -/
def stopped : State :=
  { base with seq := { base.seq with halted := true, fatalReason := some (.invalidPriorityLevel 8) } }

/-- The next state, where there is one. -/
def nextOf (o : Host.Outcome State Fault Refusal) : Option State :=
  match o with
  | .next s => some s
  | .fault _ => none
  | .refused _ => none

/-- The refusal, where there is one. -/
def refusalOf (o : Host.Outcome State Fault Refusal) : Option Refusal :=
  match o with
  | .next _ => none
  | .fault _ => none
  | .refused r => some r

/-- The fault, where there is one. -/
def faultOf (o : Host.Outcome State Fault Refusal) : Option Fault :=
  match o with
  | .next _ => none
  | .fault r => some r
  | .refused _ => none

/-- A field of the state an operation leaves. -/
def after {α : Type} (i : Instr) (s : State) (f : State → α) : Option α := (nextOf (exec i s)).map f

/-- What a read returns. -/
def reads (i : Instr) (s : State) : Option Nat := after i s State.rdata

/-- The transaction decodes to the operation. -/
def decodesTo (t : Tx) (i : Instr) : Bool := (decode params t).toOption == some i

/-! ## WellFormed -/

theorem test_wf_refuses_priority_read_of_index_0 : Instr.wf (.plicPriorityR 0#6) = false := by decide
theorem test_wf_refuses_priority_read_of_index_53 : Instr.wf (.plicPriorityR 53#6) = false := by decide
theorem test_wf_refuses_priority_write_of_index_0 : Instr.wf (.plicPriorityW 0#6 1#32) = false := by decide
theorem test_wf_refuses_priority_write_of_index_63 : Instr.wf (.plicPriorityW 63#6 1#32) = false := by decide
theorem test_wf_accepts_first_and_last_index :
    (Instr.wf (.plicPriorityR 1#6) && Instr.wf (.plicPriorityW 52#6 0#32)) = true := by decide
/-- The default map with another PLIC base, other PLIC offsets or other UART offsets. -/
def mapWith (plicBase : Word) (plic : PlicOffsets) (uart : UartOffsets) : AddrMap :=
  { AddrMap.default with plicBase := plicBase, plic := plic, uart := uart }

theorem test_wf_refuses_a_map_with_two_registers_at_one_address :
    AddrMap.wf (mapWith 0x0C000000#32 { AddrMap.default.plic with claim := 0x200000#32 } AddrMap.default.uart) =
      false := by decide +kernel
theorem test_wf_refuses_a_register_at_an_address_not_modelled :
    AddrMap.wf (mapWith 0x0C000000#32 AddrMap.default.plic { AddrMap.default.uart with rxdata := 0x14#32 }) = false := by
  decide +kernel
theorem test_wf_refuses_a_misaligned_map :
    AddrMap.wf (mapWith 0x0C000000#32 AddrMap.default.plic { AddrMap.default.uart with txdata := 0x1E#32 }) = false := by
  decide +kernel
theorem test_wf_refuses_a_misaligned_base :
    AddrMap.wf (mapWith 0x0C000002#32 AddrMap.default.plic AddrMap.default.uart) = false := by decide +kernel
theorem test_wf_refuses_a_register_inside_the_priority_array :
    AddrMap.wf (mapWith 0x0C000000#32 { AddrMap.default.plic with claim := 0x0C#32 } AddrMap.default.uart) = false := by
  decide +kernel
theorem test_wf_refuses_another_number_of_uarts : AddrMap.wf { AddrMap.default with nuart := 1 } = false := by
  decide +kernel
theorem test_wf_refuses_a_narrow_cause_word : Params.wf { params with xlen := 4 } = false := by decide +kernel
theorem test_wf_refuses_equal_control_register_numbers :
    CsrMap.wf { CsrMap.default with ie := 0x300#12 } = false := by decide
theorem test_wf_refuses_two_names_of_one_source : SrcMap.wf { SrcMap.default with uart1 := 2 } = false := by
  decide +kernel
theorem test_wf_refuses_an_empty_message : Params.wf { params with msg := [] } = false := by decide +kernel
theorem test_wf_refuses_burst_0 : Params.wf { params with burst := 0 } = false := by decide +kernel
theorem test_wf_refuses_depth_0 : Params.wf { params with txDepth := 0 } = false := by decide +kernel
theorem test_wf_refuses_counter_of_0_bits : Params.wf { params with rxBits := 0 } = false := by decide +kernel
theorem test_wf_refuses_a_misaligned_entry : Params.wf { params with handlerEntry := 0x20400102#32 } = false := by
  decide +kernel
theorem test_wf_accepts_the_test_parameters : (params.wf && ignoring.wf) = true := by decide +kernel

/-! ## Decode: words written out from 30_encoding.md and the address list of 95_test_vectors.md -/

/-- R91: bit 31, then bits [30:4], then the code, field by field; V411 row 1. -/
theorem test_decode_cause_bits :
    decodesTo (.cause (1#1 ++ 0b000000000000000000000000001#27 ++ 0b1011#4).toNat) .intExternal = true := by decide +kernel
/-- V410, asynchronous half. -/
theorem test_decode_interrupt_words :
    [decodesTo (.cause 0x80000000) .intReserved0,
      decodesTo (.cause 0x80000001) .intReserved1,
      decodesTo (.cause 0x80000002) .intReserved2,
      decodesTo (.cause 0x80000003) .intSoftware,
      decodesTo (.cause 0x80000004) .intReserved4,
      decodesTo (.cause 0x80000005) .intReserved5,
      decodesTo (.cause 0x80000006) .intReserved6,
      decodesTo (.cause 0x80000007) .intTimer,
      decodesTo (.cause 0x80000008) .intReserved8,
      decodesTo (.cause 0x80000009) .intReserved9,
      decodesTo (.cause 0x8000000A) .intReserved10,
      decodesTo (.cause 0x8000000B) .intExternal,
      decodesTo (.cause 0x8000000C) .intReserved12,
      decodesTo (.cause 0x8000000D) .intReserved13,
      decodesTo (.cause 0x8000000E) .intReserved14,
      decodesTo (.cause 0x8000000F) .intReserved15].all id = true := by decide +kernel

/-- V410, synchronous half. -/
theorem test_decode_exception_words :
    [decodesTo (.cause 0x00000000) .exc0,
      decodesTo (.cause 0x00000001) .exc1,
      decodesTo (.cause 0x00000002) .exc2,
      decodesTo (.cause 0x00000003) .exc3,
      decodesTo (.cause 0x00000004) .exc4,
      decodesTo (.cause 0x00000005) .exc5,
      decodesTo (.cause 0x00000006) .exc6,
      decodesTo (.cause 0x00000007) .exc7,
      decodesTo (.cause 0x00000008) .exc8,
      decodesTo (.cause 0x00000009) .exc9,
      decodesTo (.cause 0x0000000A) .exc10,
      decodesTo (.cause 0x0000000B) .exc11,
      decodesTo (.cause 0x0000000C) .excReserved12,
      decodesTo (.cause 0x0000000D) .excReserved13,
      decodesTo (.cause 0x0000000E) .excReserved14,
      decodesTo (.cause 0x0000000F) .excReserved15].all id = true := by decide +kernel

/-- R6, R91: the async flag is bit XLEN-1, so at XLEN = 64 it is bit 63, and bit 31 is one of the bits ignored. -/
theorem test_decode_cause_of_another_width :
    ((decode { params with xlen := 64 } (.cause 0x800000000000000B)).toOption == some .intExternal &&
      (decode { params with xlen := 64 } (.cause 0x8000000B)).toOption == some .exc11 &&
      (decode { params with xlen := 64 } (encode { params with xlen := 64 } .intExternal)).toOption ==
        some .intExternal) = true := by decide +kernel

/-- V411: bits [30:4] are ignored. -/
theorem test_decode_cause_aliases :
    [decodesTo (.cause 0xFFFFFFFB) .intExternal, decodesTo (.cause 0x7FFFFFF3) .exc3,
      decodesTo (.cause 0x80000010) .intReserved0, decodesTo (.cause 0x00000010) .exc0,
      decodesTo (.cause 0xFFFFFFFF) .intReserved15, decodesTo (.cause 0x7FFFFFFF) .excReserved15,
      decodesTo (.cause 0x40000007) .exc7].all id = true := by decide +kernel

/-- R94, R64: the priority address is base bits [31:8], the index in bits [7:2], bits [1:0] 0; index 3. -/
theorem test_decode_priority_bits :
    decodesTo (.mmio .W (0b000011000000000000000000#24 ++ 0b000011#6 ++ 0b00#2) 4 5#32) (.plicPriorityW 3#6 5#32) = true := by
  decide +kernel

/-- The UART0 base is bits [31:12] of 0x10013, the pending register at offset 0x14. -/
theorem test_decode_uart_bits :
    decodesTo (.mmio .R (0b00010000000000010011#20 ++ 0b000000010100#12) 4 0#32) .uart0IpR = true := by decide +kernel

theorem test_decode_mmio_reads :
    [decodesTo (.mmio .R 0x0C00000C#32 4 0#32) (.plicPriorityR 3#6),
      decodesTo (.mmio .R 0x0C0000D0#32 4 0#32) (.plicPriorityR 52#6),
      decodesTo (.mmio .R 0x0C001000#32 4 0#32) .plicPending0R,
      decodesTo (.mmio .R 0x0C001004#32 4 0#32) .plicPending1R,
      decodesTo (.mmio .R 0x0C002000#32 4 0#32) .plicEnable0R,
      decodesTo (.mmio .R 0x0C002004#32 4 0#32) .plicEnable1R,
      decodesTo (.mmio .R 0x0C200000#32 4 0#32) .plicThresholdR,
      decodesTo (.mmio .R 0x0C200004#32 4 0#32) .plicClaimR,
      decodesTo (.mmio .R 0x10013000#32 4 0#32) .uart0TxdataR,
      decodesTo (.mmio .R 0x10013008#32 4 0#32) .uart0TxctrlR,
      decodesTo (.mmio .R 0x10013010#32 4 0#32) .uart0IeR,
      decodesTo (.mmio .R 0x10013014#32 4 0#32) .uart0IpR].all id = true := by decide +kernel

theorem test_decode_mmio_writes :
    [decodesTo (.mmio .W 0x0C00000C#32 4 0x00010001#32) (.plicPriorityW 3#6 0x00010001#32),
      decodesTo (.mmio .W 0x0C000004#32 4 0x00010001#32) (.plicPriorityW 1#6 0x00010001#32),
      decodesTo (.mmio .W 0x0C001000#32 4 0x00010001#32) (.plicPending0W 0x00010001#32),
      decodesTo (.mmio .W 0x0C001004#32 4 0x00010001#32) (.plicPending1W 0x00010001#32),
      decodesTo (.mmio .W 0x0C002000#32 4 0x00010001#32) (.plicEnable0W 0x00010001#32),
      decodesTo (.mmio .W 0x0C002004#32 4 0x00010001#32) (.plicEnable1W 0x00010001#32),
      decodesTo (.mmio .W 0x0C200000#32 4 0x00010001#32) (.plicThresholdW 0x00010001#32),
      decodesTo (.mmio .W 0x0C200004#32 4 0x00010001#32) (.plicCompleteW 0x00010001#32),
      decodesTo (.mmio .W 0x10013000#32 4 0x00010001#32) (.uart0TxdataW 0x00010001#32),
      decodesTo (.mmio .W 0x10013008#32 4 0x00010001#32) (.uart0TxctrlW 0x00010001#32),
      decodesTo (.mmio .W 0x10013010#32 4 0x00010001#32) (.uart0IeW 0x00010001#32),
      decodesTo (.mmio .W 0x10013014#32 4 0x00010001#32) (.uart0IpW 0x00010001#32)].all id = true := by decide +kernel

/-- R95, bit by bit: 0x342 is 0011 0100 0010. -/
theorem test_decode_csr_bits : decodesTo (.csr .R 0b001101000010#12 0#32) .csrCauseR = true := by decide +kernel

theorem test_decode_csr :
    [decodesTo (.csr .W 0x305#12 0x20400100#32) (.csrTvecW 0x20400100#32), decodesTo (.csr .R 0x300#12 0#32) .csrStatusR,
      decodesTo (.csr .W 0x300#12 8#32) (.csrStatusW 8#32), decodesTo (.csr .R 0x304#12 0#32) .csrIeR,
      decodesTo (.csr .W 0x304#12 0x800#32) (.csrIeW 0x800#32)].all id = true := by decide +kernel

/-- V415 rows 5, 6 and 12, R63: there is no source 0 or 53, and no misaligned or narrow access. -/
theorem test_decode_rejects :
    ((match decode params (.mmio .W 0x0C000000#32 4 1#32) with | .error .unmapped => true | _ => false) &&
      (match decode params (.mmio .W 0x0C0000D4#32 4 1#32) with | .error .unmapped => true | _ => false) &&
      (match decode params (.mmio .R 0x0C00000E#32 4 0#32) with | .error .misaligned => true | _ => false) &&
      (match decode params (.mmio .R 0x0C00000C#32 1 0#32) with | .error .badWidth => true | _ => false) &&
      (match decode params (.csr .W 0x342#12 0#32) with | .error .noCsrOperation => true | _ => false)) = true := by
  decide +kernel

/-- R64, R65: the addresses marked "not modelled": RXDATA, RXCTRL and DIV of UART0, and the second UART. -/
theorem test_decode_rejects_addresses_not_modelled :
    [0x10013004#32, 0x1001300C#32, 0x10013018#32, 0x10023000#32, 0x10023014#32].all
      (fun a => match decode params (.mmio .R a 4 0#32) with | .error .unmapped => true | _ => false) = true := by
  decide +kernel

/-- G3 of 93_implementation_defined.md: ids of named sources. -/
theorem test_named_sources :
    [SourceName.watchdog, .rtc, .uart0, .uart1, .gpio 5, .pwm 1 0, .i2c].map (fun x => Src.id (params.src.named x)) =
      [1, 2, 3, 4, 13, 44, 52] := by decide +kernel

/-- Bare words of spec/opcode_table.json. -/
theorem test_decode_table_words :
    ([decodeTableWord 32 0x8000000B, decodeTableWord 32 0x00000002, decodeTableWord 32 0x0C00000C,
        decodeTableWord 32 0x0C200004, decodeTableWord 12 0x305, decodeTableWord 16 0x342] ==
      [some .intExternal, some .exc2, some (.plicPriorityR 3#6), some .plicClaimR, some (.csrTvecW 0#32),
        some .csrCauseR]) = true := by decide +kernel

/-- A cause word placed after reset is read, latched and acted on by the next step (assumption log 3). -/
theorem test_step_runs_a_placed_cause_word :
    ((nextOf (step (State.reset.withFetchWord 32 0x80000007))).map fun t =>
      (decide (t.seq.phase = .ret), t.rdata)) = some (true, 0x80000007) := by decide +kernel

/-- A placed register address is read by the next step. -/
theorem test_step_runs_a_placed_read :
    ((nextOf (step (State.reset.withFetchWord 32 0x10013000))).map fun t => t.trace.length) = some 1 := by
  decide +kernel

/-! ## Cause rows: V410 -/

theorem test_int_reserved0 :
    after .intReserved0 (inPhase .decode 0x80000000) (fun t => (t.seq.fatalReason, t.seq.halted)) =
      some (some (.reservedInterruptCode 0#4), true) := by decide +kernel
theorem test_int_reserved1 :
    after .intReserved1 (inPhase .decode 0x80000001) (fun t => (t.seq.fatalReason, t.seq.halted)) =
      some (some (.reservedInterruptCode 1#4), true) := by decide +kernel
theorem test_int_reserved2 :
    after .intReserved2 (inPhase .decode 0x80000002) (fun t => (t.seq.fatalReason, t.seq.halted)) =
      some (some (.reservedInterruptCode 2#4), true) := by decide +kernel
theorem test_int_reserved4 :
    after .intReserved4 (inPhase .decode 0x80000004) (fun t => (t.seq.fatalReason, t.seq.halted)) =
      some (some (.reservedInterruptCode 4#4), true) := by decide +kernel
theorem test_int_reserved5 :
    after .intReserved5 (inPhase .decode 0x80000005) (fun t => (t.seq.fatalReason, t.seq.halted)) =
      some (some (.reservedInterruptCode 5#4), true) := by decide +kernel
theorem test_int_reserved6 :
    after .intReserved6 (inPhase .decode 0x80000006) (fun t => (t.seq.fatalReason, t.seq.halted)) =
      some (some (.reservedInterruptCode 6#4), true) := by decide +kernel
theorem test_int_reserved8 :
    after .intReserved8 (inPhase .decode 0x80000008) (fun t => (t.seq.fatalReason, t.seq.halted)) =
      some (some (.reservedInterruptCode 8#4), true) := by decide +kernel
theorem test_int_reserved9 :
    after .intReserved9 (inPhase .decode 0x80000009) (fun t => (t.seq.fatalReason, t.seq.halted)) =
      some (some (.reservedInterruptCode 9#4), true) := by decide +kernel
theorem test_int_reserved10 :
    after .intReserved10 (inPhase .decode 0x8000000A) (fun t => (t.seq.fatalReason, t.seq.halted)) =
      some (some (.reservedInterruptCode 10#4), true) := by decide +kernel
theorem test_int_reserved12 :
    after .intReserved12 (inPhase .decode 0x8000000C) (fun t => (t.seq.fatalReason, t.seq.halted)) =
      some (some (.reservedInterruptCode 12#4), true) := by decide +kernel
theorem test_int_reserved13 :
    after .intReserved13 (inPhase .decode 0x8000000D) (fun t => (t.seq.fatalReason, t.seq.halted)) =
      some (some (.reservedInterruptCode 13#4), true) := by decide +kernel
theorem test_int_reserved14 :
    after .intReserved14 (inPhase .decode 0x8000000E) (fun t => (t.seq.fatalReason, t.seq.halted)) =
      some (some (.reservedInterruptCode 14#4), true) := by decide +kernel
theorem test_int_reserved15 :
    after .intReserved15 (inPhase .decode 0x8000000F) (fun t => (t.seq.fatalReason, t.seq.halted)) =
      some (some (.reservedInterruptCode 15#4), true) := by decide +kernel
theorem test_int_software :
    after .intSoftware (inPhase .decode 0x80000003) (fun t => (t.seq.phase, t.trace)) =
      some (.ret, [.csrRead 0x342#12 0x80000003]) := by decide +kernel
theorem test_int_timer :
    after .intTimer (inPhase .decode 0x80000007) (fun t => (t.seq.phase, t.seq.tc.code)) = some (.ret, 7#4) := by
  decide +kernel
theorem test_int_external :
    after .intExternal (inPhase .decode 0x8000001B) (fun t => (t.seq.phase, t.trace)) =
      some (.claim, [.csrRead 0x342#12 0x8000001B]) := by decide +kernel
theorem test_exc_0 :
    after .exc0 (inPhase .decode 0) (fun t => (t.seq.fatalReason, t.seq.halted)) =
      some (some (.fatalException 0#4), true) := by decide +kernel
theorem test_exc_1 :
    after .exc1 (inPhase .decode 1) (fun t => (t.seq.fatalReason, t.seq.halted)) =
      some (some (.fatalException 1#4), true) := by decide +kernel
theorem test_exc_2 :
    after .exc2 (inPhase .decode 2) (fun t => (t.seq.fatalReason, t.seq.halted)) =
      some (some (.fatalException 2#4), true) := by decide +kernel
theorem test_exc_3 :
    after .exc3 (inPhase .decode 3) (fun t => (t.seq.fatalReason, t.seq.halted)) =
      some (some (.fatalException 3#4), true) := by decide +kernel
theorem test_exc_4 :
    after .exc4 (inPhase .decode 4) (fun t => (t.seq.fatalReason, t.seq.halted)) =
      some (some (.fatalException 4#4), true) := by decide +kernel
theorem test_exc_5 :
    after .exc5 (inPhase .decode 5) (fun t => (t.seq.fatalReason, t.seq.halted)) =
      some (some (.fatalException 5#4), true) := by decide +kernel
theorem test_exc_6 :
    after .exc6 (inPhase .decode 6) (fun t => (t.seq.fatalReason, t.seq.halted)) =
      some (some (.fatalException 6#4), true) := by decide +kernel
theorem test_exc_7 :
    after .exc7 (inPhase .decode 7) (fun t => (t.seq.fatalReason, t.seq.halted)) =
      some (some (.fatalException 7#4), true) := by decide +kernel
theorem test_exc_8 :
    after .exc8 (inPhase .decode 8) (fun t => (t.seq.fatalReason, t.seq.halted)) =
      some (some (.fatalException 8#4), true) := by decide +kernel
theorem test_exc_9 :
    after .exc9 (inPhase .decode 9) (fun t => (t.seq.fatalReason, t.seq.halted)) =
      some (some (.fatalException 9#4), true) := by decide +kernel
theorem test_exc_10 :
    after .exc10 (inPhase .decode 10) (fun t => (t.seq.fatalReason, t.seq.halted)) =
      some (some (.fatalException 10#4), true) := by decide +kernel
theorem test_exc_11 :
    after .exc11 (inPhase .decode 11) (fun t => (t.seq.fatalReason, t.seq.halted)) =
      some (some (.fatalException 11#4), true) := by decide +kernel
theorem test_exc_reserved_12 :
    after .excReserved12 (inPhase .decode 12) (fun t => (t.seq.fatalReason, t.seq.halted)) =
      some (some (.reservedExceptionCode 12#4), true) := by decide +kernel
theorem test_exc_reserved_13 :
    after .excReserved13 (inPhase .decode 13) (fun t => (t.seq.fatalReason, t.seq.halted)) =
      some (some (.reservedExceptionCode 13#4), true) := by decide +kernel
theorem test_exc_reserved_14 :
    after .excReserved14 (inPhase .decode 14) (fun t => (t.seq.fatalReason, t.seq.halted)) =
      some (some (.reservedExceptionCode 14#4), true) := by decide +kernel
theorem test_exc_reserved_15 :
    after .excReserved15 (inPhase .decode 15) (fun t => (t.seq.fatalReason, t.seq.halted)) =
      some (some (.reservedExceptionCode 15#4), true) := by decide +kernel
/-- V411, last lines: SYNC_ACTION = IGNORE returns, and a reserved code stays fatal. -/
theorem test_exc_ignored :
    after .exc3 { inPhase .decode 3 with params := ignoring } (fun t => (t.seq.phase, t.seq.halted)) =
      some (.ret, false) := by decide +kernel
theorem test_exc_reserved_is_fatal_when_ignoring :
    after .excReserved12 { inPhase .decode 12 with params := ignoring } (fun t => t.seq.halted) = some true := by
  decide +kernel

/-! ## PLIC rows: V413 to V415 -/

theorem test_priority_read : reads (.plicPriorityR 3#6) base = some 4 := by decide +kernel
theorem test_priority_write_keeps_low_bits :
    after (.plicPriorityW 3#6 8#32) base (fun t => t.plic.prio[2]) = some 0#3 := by decide +kernel
theorem test_priority_write_of_last_source :
    after (.plicPriorityW 52#6 1#32) base (fun t => (t.plic.prio[51], t.plic.prio[2])) = some (1#3, 4#3) := by
  decide +kernel
theorem test_priority_index_0_is_unmapped : refusalOf (exec (.plicPriorityR 0#6) base) = some .unmapped := by
  decide +kernel
theorem test_priority_index_53_is_unmapped :
    refusalOf (exec (.plicPriorityW 53#6 1#32) base) = some .unmapped := by decide +kernel
/-- V415 row 11: sources 3 and 8. -/
theorem test_pending0_read :
    reads .plicPending0R { base with plic := { base.plic with ip := base.plic.ip.set 7 true } } = some 0x108 := by
  decide +kernel
/-- V415 row 10. -/
theorem test_pending1_read :
    reads .plicPending1R { base with plic := { base.plic with ip := only 51 true false } } = some 0x00100000 := by
  decide +kernel
theorem test_pending0_write_is_ignored :
    after (.plicPending0W 0xFFFFFFFF#32) base (fun t => decide (t.plic = base.plic)) = some true := by decide +kernel
theorem test_pending1_write_is_ignored :
    after (.plicPending1W 0xFFFFFFFF#32) base (fun t => decide (t.plic = base.plic)) = some true := by decide +kernel
theorem test_enable0_read : reads .plicEnable0R base = some 8 := by decide +kernel
/-- V415 row 7. -/
theorem test_enable0_write_then_read :
    ((nextOf (exec (.plicEnable0W 0xFFFFFFFF#32) base)).bind fun t => reads .plicEnable0R t) = some 0xFFFFFFFE := by
  decide +kernel
theorem test_enable1_read : reads .plicEnable1R base = some 0 := by decide +kernel
/-- V415 row 8. -/
theorem test_enable1_write_then_read :
    ((nextOf (exec (.plicEnable1W 0xFFFFFFFF#32) base)).bind fun t => reads .plicEnable1R t) = some 0x001FFFFF := by
  decide +kernel
theorem test_threshold_read : reads .plicThresholdR base = some 3 := by decide +kernel
theorem test_threshold_write : after (.plicThresholdW 0xF#32) base (fun t => t.plic.thr) = some 7#3 := by decide +kernel
/-- V413 row 2. -/
theorem test_claim_takes_the_winner :
    after .plicClaimR base (fun t => (t.rdata, t.plic.ip[2], t.plic.insvc[2])) = some (3, false, true) := by
  decide +kernel
/-- V413 row 4: a tie between sources 3 and 8 goes to 3. -/
theorem test_claim_tie_goes_to_the_smaller_id :
    reads .plicClaimR
        { base with
          plic := { base.plic with
            ip := base.plic.ip.set 7 true, ie := base.plic.ie.set 7 true, prio := base.plic.prio.set 7 4#3 } } =
      some 3 := by decide +kernel
theorem test_complete_releases :
    after (.plicCompleteW 3#32) (servingIn .complete) (fun t => t.plic.insvc[2]) = some false := by decide +kernel
/-- V414 row 9. -/
theorem test_complete_ignores_53 :
    after (.plicCompleteW 53#32) (servingIn .complete) (fun t => decide (t.plic = (servingIn .complete).plic)) =
      some true := by decide +kernel

/-! ## UART0 rows: V418 -/

theorem test_txdata_write_queues_its_low_byte :
    after (.uart0TxdataW 0x12345678#32) base (fun t => t.uart.txfifo) = some [0x78#8] := by decide +kernel

/-- A full FIFO. -/
def full : State := { base with uart := { base.uart with txfifo := List.replicate 8 0x41#8 } }

theorem test_txdata_write_overruns_when_full :
    after (.uart0TxdataW 0x42#32) full (fun t => (t.uart.txfifo.length, t.seq.txOverrun)) = some (8, true) := by
  decide +kernel
theorem test_txdata_read_full : reads .uart0TxdataR full = some 0x80000000 := by decide +kernel
theorem test_txdata_read_not_full : reads .uart0TxdataR base = some 0 := by decide +kernel
theorem test_ip_read : reads .uart0IpR base = some 1 := by decide +kernel
/-- V418 row 10. -/
theorem test_ip_read_both : reads .uart0IpR { base with inputs := { base.inputs with rxwm := true } } = some 3 := by
  decide +kernel
theorem test_ip_write_is_ignored :
    after (.uart0IpW 0#32) base (fun t => decide (t.uart = base.uart)) = some true := by decide +kernel
theorem test_ie_read : reads .uart0IeR base = some 1 := by decide +kernel
/-- V418 row 16. -/
theorem test_ie_write :
    after (.uart0IeW 0xFFFFFFFF#32) base (fun t => (t.uart.ieTxwm, t.uart.ieRxwm)) = some (true, true) := by
  decide +kernel
theorem test_txctrl_read : reads .uart0TxctrlR base = some 0x00010001 := by decide +kernel
/-- V418 row 15. -/
theorem test_txctrl_write_then_read :
    ((nextOf (exec (.uart0TxctrlW 0xFFFFFFFF#32) base)).bind fun t => reads .uart0TxctrlR t) = some 0x00070003 := by
  decide +kernel

/-! ## Control-register rows: V419 -/

theorem test_cause_read : reads .csrCauseR (inPhase .idle 0x8000000B) = some 0x8000000B := by decide +kernel
theorem test_tvec_write :
    after (.csrTvecW 0x20400100#32) base (fun t => (t.core.tvec, t.core.tvecInstalled)) =
      some (0x20400100#32, true) := by decide +kernel
/-- V419 row 3. -/
theorem test_tvec_write_refuses_a_bad_vector :
    refusalOf (exec (.csrTvecW 0x20400101#32) base) = some .badVector := by decide +kernel
theorem test_status_read : reads .csrStatusR base = some 0x8 := by decide +kernel
/-- V419 row 5. -/
theorem test_status_write_masks_interrupts :
    after (.csrStatusW 0#32) base (fun t => (t.core.mie, t.core.mpie)) = some (false, false) := by decide +kernel
/-- V419 row 2: the other bits are kept when they are returned as held. -/
theorem test_status_write_keeps_other_bits :
    after (.csrStatusW 0x00001888#32) { base with core := { base.core with status := 0x00001880#32 } }
      (fun t => t.core.status) = some 0x00001888#32 := by decide +kernel
theorem test_ie_register_read : reads .csrIeR base = some 0x800 := by decide +kernel
theorem test_ie_register_write :
    after (.csrIeW 0x888#32) { base with core := { base.core with ie := 0x88#32 } }
      (fun t => (t.core.msie, t.core.mtie, t.core.meie, t.core.ie)) = some (true, true, true, 0x888#32) := by
  decide +kernel

/-! ## Traps and the other agents: V412, V418, V420 -/

/-- V412 rows 1 and 2. -/
theorem test_comparator_is_strict :
    (base.plic.eip, ({ base.plic with thr := 4#3 } : PlicState).eip) = (true, false) := by decide +kernel

/-- The foreground, with nothing in the handler. -/
def idle : State := { base with core := { base.core with status := 0x8#32 } }

/-- V420 row 1. -/
theorem test_trap_entry :
    ((nextOf (agentStep (.trap 0x8000000B) idle)).map fun t =>
      (t.core.mpie, t.core.mie, t.core.pc, t.core.epc, t.seq.phase)) =
      some (true, false, 0x20400100#32, 0x20400400#32, .decode) := by decide +kernel
/-- V420 row 10. -/
theorem test_trap_without_vector :
    faultOf (agentStep (.trap 2) { idle with core := { idle.core with tvecInstalled := false } }) =
      some .uninstalledVector := by decide +kernel
/-- V420 row 5. -/
theorem test_trap_not_admitted :
    ((nextOf (agentStep (.trap 0x8000000B) { idle with core := { idle.core with ie := 0#32 } })).map fun t =>
      t.seq.phase) = some .idle := by decide +kernel
/-- V420 row 2. -/
theorem test_trap_return :
    ((nextOf (seqStep (inPhase .ret 0x8000000B))).map fun t => (t.core.mie, t.core.mpie, t.core.pc, t.seq.phase)) =
      some (true, true, 0x20400400#32, .idle) := by decide +kernel
/-- V418 rows 18 and 19. -/
theorem test_serializer :
    (((nextOf (agentStep .serialize { base with uart := { base.uart with txfifo := [0x41#8, 0x42#8] } })).map fun t =>
        (t.uart.txfifo, t.uart.txdOut)) = some ([0x42#8], [0x41#8])) := by decide +kernel
/-- R46, R177: source 3 of a running UART is latched by its own line. -/
theorem test_gateway :
    ((nextOf (agentStep (.gateway 2) { base with plic := { base.plic with ip := Vector.replicate 52 false } })).map
      fun t => t.plic.ip[2]) = some true := by decide +kernel
/-- V416 row 9, the read of the two accesses, and row 16. -/
theorem test_enable_command_starts_with_its_read :
    ((nextOf (requestStep (.enableSource (.number 8)) base)).map fun t => t.fg.todo.length) = some 2 := by
  decide +kernel
theorem test_enable_command_refuses_53 :
    refusalOf (requestStep (.enableSource (.number 53)) base) = some .badSource := by decide +kernel

/-! ## Witnesses: for each statement with hypotheses, a state and operands that meet them -/

/-- A running sequencer in phase DECODE, with a word in the cause register that the mask and the row's match select, in
both forms of `CauseRow`. -/
def decodes (w word : Nat) : Bool :=
  let s := inPhase .decode w
  w &&& 0x8000000F == word && s.params.xlen == 32 && !s.seq.halted && decide (s.seq.phase = .decode) &&
    (s.core.cause.testBit (s.params.xlen - 1) == (BitVec.ofNat 32 word).getLsbD 31) && s.core.cause % 16 == word % 16

/-- The machine with one event to come. -/
def about (e : Event) (s : State) : State := { s with script := [e] }

/-- The invariant holds of the test states. -/
theorem inv_base : Inv base :=
  { params := by decide +kernel
    handshake := by unfold HandshakeOk; decide +kernel
    engine := by unfold EngineOk; decide +kernel
    sequencer := by unfold SequencerOk; decide +kernel
    fifo := by decide +kernel
    cause := by decide +kernel }

theorem inv_decode : Inv (inPhase .decode 0x8000000B) :=
  { params := by decide +kernel
    handshake := by unfold HandshakeOk; decide +kernel
    engine := by unfold EngineOk; decide +kernel
    sequencer := by unfold SequencerOk; decide +kernel
    fifo := by decide +kernel
    cause := by decide +kernel }

theorem inv_complete : Inv (servingIn .complete) :=
  { params := by decide +kernel
    handshake := by unfold HandshakeOk; decide +kernel
    engine := by unfold EngineOk; decide +kernel
    sequencer := by unfold SequencerOk; decide +kernel
    fifo := by decide +kernel
    cause := by decide +kernel }

theorem inv_refill : Inv (servingIn .refill) :=
  { params := by decide +kernel
    handshake := by unfold HandshakeOk; decide +kernel
    engine := by unfold EngineOk; decide +kernel
    sequencer := by unfold SequencerOk; decide +kernel
    fifo := by decide +kernel
    cause := by decide +kernel }

theorem winner_base : IsWinner base.plic 2 := by unfold IsWinner; decide +kernel

/-- Nothing is a candidate once the one source is in service. -/
theorem no_candidate_serving : NoCandidate (servingIn .claim).plic := by unfold NoCandidate; decide +kernel

theorem ready_base : Ready base := by unfold Ready; decide +kernel

theorem witness_ReservedInterruptCodes0To6Halt :
    [0x80000000, 0x80000001, 0x80000002, 0x80000004, 0x80000005, 0x80000006].all
      (fun w => decodes w w) = true := by decide +kernel

theorem witness_ReservedInterruptCodes8To15Halt :
    [0x80000008, 0x80000009, 0x8000000A, 0x8000000C, 0x8000000D, 0x8000000E,
      0x8000000F].all (fun w => decodes w w) = true := by decide +kernel

theorem witness_ReservedExceptionCodesHalt :
    [0x0000000C, 0x0000000D, 0x0000000E, 0x0000000F].all (fun w => decodes w w) = true := by decide +kernel

theorem witness_RecognisedInterruptsChooseTheirPhase :
    (decodes 0x80000003 0x80000003 && decodes 0x80000007 0x80000007 &&
      decodes 0xFFFFFFFB 0x8000000B) = true := by decide +kernel

theorem witness_DefinedExceptionsFollowSyncAction :
    ((List.range 12).all fun k => decodes k k) = true ∧
      params.syncAction[0] = .fatal ∧ ignoring.syncAction[0] = .ignore := by decide +kernel

theorem witness_CauseRowsNeedRunningDecode :
    (decode params (.cause 0x8000000B)).toOption = some .intExternal ∧ stopped.seq.halted = true ∧
      base.seq.halted = false ∧ base.seq.phase ≠ .decode := by decide +kernel

theorem witness_PriorityRegisterReadsAndWrites :
    (1#6).toNat = Src.id 0 ∧ (52#6).toNat = Src.id 51 ∧ (0#6).toNat = 0 ∧ 53 ≤ (53#6).toNat ∧ 53 ≤ (63#6).toNat ∧
      params.map.wf = true ∧ base.seq.halted = false := by decide +kernel

theorem witness_PendingWordsReadAndIgnoreWrites :
    params.map.wf = true ∧ base.seq.halted = false ∧ HandshakeOk (servingIn .complete).plic ∧
      (servingIn .complete).plic.insvc[(2 : Src)] = true ∧ Src.id 30 < 32 ∧ 32 ≤ Src.id 31 := 
  ⟨by decide +kernel, by decide +kernel, inv_complete.handshake, by decide +kernel, by decide, by decide⟩

theorem witness_EnableWordsReadEnables :
    params.map.wf = true ∧ base.seq.halted = false := by decide +kernel

theorem witness_ThresholdRegisterReadsAndWrites :
    params.map.wf = true ∧ base.seq.halted = false := by decide +kernel

theorem witness_TxctrlReadsAndWrites :
    params.map.wf = true ∧ base.seq.halted = false := by decide +kernel

theorem witness_EnableWritesReplaceTheirWord :
    params.map.wf = true ∧ base.seq.halted = false ∧ Src.id 30 < 32 ∧ 32 ≤ Src.id 31 ∧
      (0#32).getLsbD (Src.id 30) = false ∧ (0#32).getLsbD (Src.id 31 - 32) = false := by decide +kernel

theorem witness_ClaimTakesTheWinner :
    params.map.wf = true ∧ base.seq.halted = false ∧ IsWinner base.plic 2 ∧ NoCandidate (servingIn .claim).plic ∧
      ∃ t u, exec .plicClaimR base = .next t ∧ t.rdata ≠ 0 ∧ exec .plicClaimR t = .next u := 
  ⟨by decide +kernel, by decide +kernel, winner_base, no_candidate_serving, _, _, rfl, by decide +kernel, rfl⟩

theorem witness_CompleteReleasesItsId :
    params.map.wf = true ∧ base.seq.halted = false ∧ (1#32).toNat = Src.id 0 ∧ (52#32).toNat = Src.id 51 ∧
      (0#32).toNat = 0 ∧ 52 < (53#32).toNat := by decide +kernel

theorem witness_ComparatorHasBothForms :
    ({ base.plic with thr := 7#3 } : PlicState).thr = 7#3 ∧ base.plic.prio[(0 : Src)] = 0#3 ∧
      HandshakeOk (servingIn .complete).plic ∧ (servingIn .complete).plic.insvc[(2 : Src)] = true := 
  ⟨rfl, by decide +kernel, inv_complete.handshake, by decide +kernel⟩

theorem witness_TxdataQueuesOrOverrunsAndReadsFull :
    params.map.wf = true ∧ base.seq.halted = false ∧ base.uart.txfifo.length < base.params.txDepth ∧
      full.seq.halted = false ∧ full.uart.txfifo.length = full.params.txDepth := by decide +kernel

theorem witness_WatermarkRegistersReadAndWrite :
    params.map.wf = true ∧ (∃ t, exec (.uart0IeW 1#32) base = .next t) ∧ (1#32).getLsbD 0 = true ∧
      base.uart.txfifo.length < base.uart.txcnt.toNat := 
  ⟨by decide +kernel, ⟨_, rfl⟩, by decide, by decide +kernel⟩

theorem witness_UartLineFollowsWatermarks :
    ({ base.uart with txcnt := 0#3 } : UartState).txcnt = 0#3 ∧ base.uart.txfifo = [] ∧ 1 ≤ base.uart.txcnt.toNat := by decide +kernel

theorem witness_ControlRegisterReadsReturnTheWord :
    base.seq.halted = false := by decide +kernel

theorem witness_VectorWriteInstallsAlignedEntry :
    base.seq.halted = false ∧ (0x20400100#32).toNat % 4 = 0 ∧ (0x20400103#32).toNat % 4 ≠ 0 := by decide +kernel

theorem witness_ControlRegisterWritesSetTheirFields :
    base.seq.halted = false ∧
      (∀ b : Fin 32, b.val ≠ 3 → b.val ≠ 7 → (0x80#32).getLsbD b = base.core.status.getLsbD b) ∧
      (∀ b : Fin 32, b.val ≠ 3 → b.val ≠ 7 → b.val ≠ 11 → (0x88#32).getLsbD b = base.core.ie.getLsbD b) := by decide +kernel

theorem witness_TrapEntrySavesAndMasks :
    base.seq.halted = false ∧ base.seq.phase = .idle ∧ 0x8000000B < 2 ^ base.params.xlen ∧ admitted base.params base.core 0x8000000B = true ∧
      base.core.tvecInstalled = true ∧ 2 < 2 ^ State.reset.params.xlen ∧ admitted State.reset.params State.reset.core 2 = true ∧
      State.reset.seq.halted = false ∧ State.reset.seq.phase = .idle ∧ State.reset.core.tvecInstalled = false := by decide +kernel

theorem witness_TrapAdmissionFollowsTheTable :
    stopped.seq.halted = true ∧ admitted base.params base.core 0x80000003 = false ∧
      (servingIn .refill).seq.halted = false ∧ (servingIn .refill).seq.phase ≠ .idle ∧
      admitted params (servingIn .refill).core 0x8000000B = false := by decide +kernel

theorem witness_AdmittedTrapInHandlerIsNested :
    (servingIn .refill).seq.halted = false ∧ (servingIn .refill).seq.phase ≠ .idle ∧
      admitted params (servingIn .refill).core 2 = true := by decide +kernel

theorem witness_TrapReturnRestores :
    (inPhase .ret 0x8000000B).seq.halted = false ∧ (inPhase .ret 0x8000000B).seq.phase = .ret := by decide +kernel

theorem witness_ClaimPhaseChoosesByIdentifier :
    (inPhase .claim 0x8000000B).seq.halted = false ∧ (inPhase .claim 0x8000000B).seq.phase = .claim ∧
      IsWinner (inPhase .claim 0x8000000B).plic 2 ∧ (servingIn .claim).seq.phase = .claim ∧
      NoCandidate (servingIn .claim).plic := 
  ⟨by decide +kernel, by decide +kernel, winner_base, by decide +kernel, no_candidate_serving⟩

theorem witness_ReadIpPhaseServesTransmitFirst :
    (servingIn .readIp).seq.halted = false ∧ (servingIn .readIp).seq.phase = .readIp := by decide +kernel

theorem witness_CountAndCompletePhases :
    (servingIn .rxcount).seq.halted = false ∧ (servingIn .rxcount).seq.phase = .rxcount ∧
      (servingIn .complete).seq.phase = .complete ∧ Inv (servingIn .complete) := 
  ⟨by decide +kernel, by decide +kernel, by decide +kernel, inv_complete⟩

/-- A refill of which every byte has been pushed, one at a full FIFO, and one past the end of the message. -/
def pushed : State := { servingIn .refill with seq := { (servingIn .refill).seq with bi := 5 } }
def refillFull : State := { servingIn .refill with uart := full.uart }
def refillPast : State := { servingIn .refill with engine := { cursor := 21, rxCount := 0 } }

theorem witness_RefillPhasePushesThenFinishes :
    (servingIn .refill).seq.halted = false ∧ (servingIn .refill).seq.phase = .refill ∧
      (servingIn .refill).seq.bi < (servingIn .refill).seq.bn ∧ params.msg[0 + 0]? = some 0x41#8 ∧
      (servingIn .refill).uart.txfifo.length < (servingIn .refill).params.txDepth ∧
      refillFull.params.txDepth ≤ refillFull.uart.txfifo.length ∧
      refillPast.params.msg.length ≤ refillPast.engine.cursor + refillPast.seq.bi ∧ pushed.seq.bn ≤ pushed.seq.bi := by decide +kernel

theorem witness_RefillRunsAsOneOperation :
    Inv (servingIn .refill) ∧ (servingIn .refill).seq.halted = false ∧ (servingIn .refill).seq.phase = .refill ∧
      (servingIn .refill).seq.bi = 0 ∧
      (servingIn .refill).uart.txfifo.length + (servingIn .refill).seq.bn ≤ (servingIn .refill).params.txDepth := 
  ⟨inv_refill, by decide +kernel, by decide +kernel, by decide +kernel, by decide +kernel⟩

/-- An external-interrupt dispatch with UART0 pending and its FIFO at the watermark (the receive side is served), with
source 8 pending (no device of the block), and with nothing pending (a spurious claim). -/
def dispatchRx : State :=
  { inPhase .decode 0x8000000B with
    uart := { base.uart with txfifo := [0x41#8] }, inputs := { base.inputs with rxwm := true } }
def dispatchOther : State :=
  { inPhase .decode 0x8000000B with
    plic := { base.plic with prio := only 7 4#3 0#3, ip := only 7 true false, ie := only 7 true false } }
def dispatchNone : State :=
  { inPhase .decode 0x8000000B with plic := { base.plic with ip := Vector.replicate 52 false } }

/-- Running, in phase DECODE, with a cause word that selects INT_EXTERNAL. -/
def startsExternal (s : State) : Bool :=
  !s.seq.halted && s.seq.phase == .decode && (decode s.params (.cause s.core.cause)).toOption == some .intExternal

theorem inv_dispatchRx : Inv dispatchRx :=
  { params := by decide +kernel
    handshake := by unfold HandshakeOk; decide +kernel
    engine := by unfold EngineOk; decide +kernel
    sequencer := by unfold SequencerOk; decide +kernel
    fifo := by decide +kernel
    cause := by decide +kernel }

theorem inv_dispatchOther : Inv dispatchOther :=
  { params := by decide +kernel
    handshake := by unfold HandshakeOk; decide +kernel
    engine := by unfold EngineOk; decide +kernel
    sequencer := by unfold SequencerOk; decide +kernel
    fifo := by decide +kernel
    cause := by decide +kernel }

theorem inv_dispatchNone : Inv dispatchNone :=
  { params := by decide +kernel
    handshake := by unfold HandshakeOk; decide +kernel
    engine := by unfold EngineOk; decide +kernel
    sequencer := by unfold SequencerOk; decide +kernel
    fifo := by decide +kernel
    cause := by decide +kernel }

theorem witness_ExternalDispatchIsTheBigStep :
    Inv (inPhase .decode 0x8000000B) ∧ startsExternal (inPhase .decode 0x8000000B) = true ∧
      decode params (.cause 0x8000000B) = .ok .intExternal ∧ servesTx (inPhase .decode 0x8000000B) := 
  ⟨inv_decode, by decide +kernel, rfl, by unfold servesTx; decide +kernel⟩

theorem witness_ExternalDispatchIsTheBigStep_receive :
    Inv dispatchRx ∧ startsExternal dispatchRx = true ∧ ¬servesTx dispatchRx ∧
      dispatchRx.plic.winnerId = Src.id params.src.uart0 ∧ dispatchRx.inputs.rxwm = true := 
  ⟨inv_dispatchRx, by decide +kernel, by unfold servesTx; decide +kernel, by decide +kernel, by decide +kernel⟩

theorem witness_ExternalDispatchIsTheBigStep_other :
    Inv dispatchOther ∧ startsExternal dispatchOther = true ∧ dispatchOther.plic.winnerId = 8 := 
  ⟨inv_dispatchOther, by decide +kernel, by decide +kernel⟩

theorem witness_ExternalDispatchIsTheBigStep_spurious :
    Inv dispatchNone ∧ startsExternal dispatchNone = true ∧ dispatchNone.plic.winnerId = 0 := 
  ⟨inv_dispatchNone, by decide +kernel, by decide +kernel⟩

theorem witness_DispatchFinishesWithinBound :
    Inv (inPhase .decode 0x8000000B) ∧ (inPhase .decode 0x8000000B).seq.halted = false ∧
      (inPhase .decode 0x8000000B).seq.phase = .decode ∧ Inv (servingIn .refill) ∧
      (servingIn .refill).seq.halted = false ∧ (servingIn .refill).seq.phase ≠ .idle ∧
      Event.serialize ≠ .seq ∧ ∀ u : PowerOn, Event.serialize ≠ .reset u := 
  ⟨inv_decode, by decide +kernel, by decide +kernel, inv_refill, by decide +kernel, by decide +kernel, nofun, nofun⟩

theorem witness_HandlerNeverOverruns :
    watermarkFits (about .seq (servingIn .refill)) ∧ RefillFits (about .seq (servingIn .refill)) ∧
      (about .seq (servingIn .refill)).seq.phase ≠ .idle ∧ ∃ t, step (about .seq (servingIn .refill)) = .next t := 
  ⟨by unfold watermarkFits; decide +kernel, by unfold RefillFits; decide +kernel, by decide +kernel, _, rfl⟩

theorem witness_CursorReturnsAfterCeilingOfCalls :
    params.wf = true ∧ 0 < 4 ∧ 4 < (params.msg.length + params.burst - 1) / params.burst := by decide +kernel

theorem witness_DisableAllThenClaimReturnsZero :
    Ready base := ready_base

theorem witness_EnableTxwmSetsOneBit :
    Ready base := ready_base

/-- Source 8 by its number, and by its name `gpio 0`. -/
theorem denotes_number : Denotes params (.number 8) 7 := Or.inl rfl
theorem denotes_named : Denotes params (.named (.gpio 0)) 7 := Or.inr ⟨.gpio 0, rfl, by decide +kernel⟩

theorem witness_EnableAndDisableChangeOneSource :
    Ready base ∧ Denotes base.params (.number 8) 7 ∧ Denotes base.params (.named (.gpio 0)) 7 := 
  ⟨ready_base, denotes_number, denotes_named⟩

theorem witness_LevelCommandsCheckTheirOperand :
    Ready base ∧ Denotes base.params (.number 8) 7 ∧ Denotes base.params (.named (.gpio 0)) 7 ∧ 7 ≤ 7 ∧ 7 < 8 := 
  ⟨ready_base, denotes_number, denotes_named, by decide, by decide⟩

theorem witness_BadSourceOperandsAreRefused :
    Ready base ∧ (0 = 0 ∨ 52 < 0) ∧ (53 = 0 ∨ 52 < 53) := ⟨ready_base, by decide, by decide⟩

/-- The foreground before the installer: interrupts off, no vector. -/
def uninstalled : State :=
  { base with core := { base.core with status := 0x00001880#32, ie := 0x88#32, tvecInstalled := false } }

theorem witness_InstallVectorRunsInOrder :
    Ready uninstalled ∧ uninstalled.params.wf = true ∧ uninstalled.core.mie = false ∧
      vectorFirst uninstalled.params uninstalled.trace := 
  ⟨by unfold Ready; decide +kernel, by decide +kernel, by decide +kernel, by
    intro before a after h
    simp [uninstalled, base, State.resetWith] at h⟩

theorem witness_ClaimCompleteClaimReturnsZero :
    Ready base ∧ HandshakeOk base.plic ∧
      (∀ x y : Src, base.plic.candidate x = true → base.plic.candidate y = true → x = y) ∧
      ∃ a b c, exec .plicClaimR base = .next a ∧ exec (.plicCompleteW (BitVec.ofNat 32 a.rdata)) a = .next b ∧
        exec .plicClaimR b = .next c := 
  ⟨ready_base, inv_base.handshake, by decide +kernel, _, _, _, rfl, rfl, rfl⟩

theorem witness_WrongCompleteLeavesSourceLocked :
    (servingIn .complete).plic.insvc[(2 : Src)] = true ∧ (2 : Src) ≠ 7 ∧ (8#32).toNat = Src.id 7 ∧
      ∃ t, exec (.plicCompleteW 8#32) (servingIn .complete) = .next t := 
  ⟨by decide +kernel, by decide, by decide, _, rfl⟩

theorem witness_GatewayLatchesIdleSource :
    lineOf { base with plic := { base.plic with ip := Vector.replicate 52 false } } 2 = true ∧
      (Vector.replicate 52 false)[(2 : Src)] = false ∧ base.plic.insvc[(2 : Src)] = false ∧ lineOf base 0 = false ∧
      base.plic.ip[(2 : Src)] = true ∧ (servingIn .complete).plic.insvc[(2 : Src)] = true ∧
      (0 : Src) ≠ base.params.src.uart0 ∧ (51 : Src) ≠ base.params.src.uart0 ∧ (2 : Src) = base.params.src.uart0 := by decide +kernel

theorem witness_SerializerSendsOldestByte :
    full.uart.txen = true ∧ full.uart.txfifo = 0x41#8 :: List.replicate 7 0x41#8 ∧ State.reset.uart.txen = false ∧
      base.uart.txfifo = [] := by decide +kernel

theorem witness_StepRunsTheDecodedTransaction :
    nextEvent (about .seq (inPhase .decode 0x8000000B)) = .seq ∧
      (about .seq (inPhase .decode 0x8000000B)).seq.halted = false ∧
      fetch (about .seq (inPhase .decode 0x8000000B)) = some (.cause 0x8000000B) ∧
      decode params (.cause 0x8000000B) = .ok .intExternal ∧
      fetch (placeTx (.csr .R 0x342#12 0#32) base) = some (.csr .R 0x342#12 0#32) ∧
      nextEvent (placeTx (.csr .R 0x342#12 0#32) base) = .seq ∧
      decode params (.csr .R 0x342#12 0#32) = .ok .csrCauseR ∧
      fetch (placeTx (.csr .W 0x342#12 0#32) base) = some (.csr .W 0x342#12 0#32) ∧
      decode params (.csr .W 0x342#12 0#32) = .error .noCsrOperation ∧
      ∃ t, requestStep .claim (about .seq base) = .next t ∧ nextEvent t = .seq ∧ t.fg.todo = [.op .plicClaimR] := 
  ⟨by decide +kernel, by decide +kernel, by decide +kernel, rfl, by decide +kernel, by decide +kernel, rfl,
    by decide +kernel, rfl, _, rfl, by decide +kernel, by decide +kernel⟩

theorem witness_UnmappedAccessesAreRejected :
    1 ≠ 4 ∧ (0x0C00000E#32).toNat % 4 ≠ 0 ∧ (0x0C0000D4#32).toNat % 4 = 0 ∧
      (Register.fixed.all fun r => params.map.addr r != 0x0C0000D4#32) = true ∧
      (∀ k : BitVec 6, 1 ≤ k.toNat ∧ k.toNat ≤ 52 → params.map.addr (.priority k) ≠ 0x0C0000D4#32) ∧
      0x10013004#32 ∈ params.map.unmodelled ∧ (0x10013004#32).toNat % 4 = 0 ∧ params.csr.wf = true ∧
      0x342#12 = params.csr.cause ∧ 0x305#12 = params.csr.tvec ∧
      ([Csr.cause, .tvec, .status, .ie].all fun c => params.csr.num c != 0x301#12) = true := by decide +kernel

theorem witness_ResetPutsTheTable :
    stopped.seq.halted = true ∧ ({ base.seq with txOverrun := true } : SeqState).txOverrun = true ∧
      ({ base.seq with nestedTrap := true } : SeqState).nestedTrap = true ∧
      (∀ u : PowerOn, Event.serialize ≠ .reset u) ∧ ∃ t, agentStep .serialize stopped = .next t := 
  ⟨by decide +kernel, rfl, rfl, nofun, _, rfl⟩

theorem witness_DecodeInvertsEncode :
    params.xlenOk = true ∧ params.map.wf = true ∧ params.csr.wf = true ∧ Instr.wf (.plicPriorityW 52#6 7#32) = true := by decide +kernel

theorem witness_EveryStepKeepsTheInvariant :
    Inv (about .seq base) ∧ ∃ t, step (about .seq base) = .next t := 
  ⟨⟨inv_base.params, inv_base.handshake, inv_base.engine, inv_base.sequencer, inv_base.fifo, inv_base.cause⟩, _, rfl⟩

theorem witness_ResetEstablishesTheInvariant :
    params.wf = true := by decide +kernel

theorem witness_SourceStateMachine :
    HandshakeOk (inPhase .claim 0x8000000B).plic ∧ HandshakeOk (servingIn .complete).plic ∧
      (∀ u : PowerOn, Event.seq ≠ .reset u) ∧ (∃ t, agentStep .seq (inPhase .claim 0x8000000B) = .next t) ∧
      (∃ t, agentStep .seq (servingIn .complete) = .next t) ∧ ∃ t, agentStep (.gateway 2) base = .next t := 
  ⟨inv_base.handshake, inv_complete.handshake, nofun, ⟨_, rfl⟩, ⟨_, rfl⟩, _, rfl⟩

theorem witness_HaltIsSticky :
    stopped.seq.halted = true ∧ ∀ u : PowerOn, Event.serialize ≠ .reset u := 
  ⟨by decide +kernel, nofun⟩

theorem witness_CursorBelongsToTheHandler :
    (∃ t, exec .csrCauseR base = .next t) ∧ base.seq.phase = .idle ∧ ∃ t, agentStep .seq base = .next t := 
  ⟨⟨_, rfl⟩, by decide +kernel, _, rfl⟩

theorem witness_HandlerNeverReenablesInterrupts :
    ∃ t, (servingIn .refill).seq.phase ≠ .idle ∧ agentStep .seq (servingIn .refill) = .next t ∧ t.seq.phase ≠ .idle := 
  ⟨_, by decide +kernel, rfl, by decide +kernel⟩

theorem witness_HandlerKeepsCommandRegisters :
    (servingIn .complete).seq.phase ≠ .idle ∧ ∃ t, seqStep (servingIn .complete) = .next t := 
  ⟨by decide +kernel, _, rfl⟩

theorem witness_TraceGrowsByOneAccess :
    (∀ u : PowerOn, Event.seq ≠ .reset u) ∧ ∃ t, agentStep .seq (servingIn .complete) = .next t := 
  ⟨nofun, _, rfl⟩

theorem witness_TransmittedBytesKeepTheirOrder :
    (∀ u : PowerOn, Event.serialize ≠ .reset u) ∧ ∃ t, agentStep .serialize full = .next t := 
  ⟨nofun, _, rfl⟩

theorem witness_InstalledVectorStays :
    VectorOk base ∧ keepsVector base.params (.request .installVector) ∧
      (∀ u : PowerOn, Event.request .installVector ≠ .reset u) ∧
      (∃ t, agentStep (.request .installVector) base = .next t) ∧ base.core.tvecInstalled = true ∧
      keepsVector base.params (.request (.raw (.csr .W 0x305#12 0x20400100#32))) ∧
      ∃ t, (inPhase .ret 0x8000000B).seq.phase ≠ .idle ∧ agentStep .seq (inPhase .ret 0x8000000B) = .next t ∧
        t.seq.phase = .idle := 
  ⟨⟨by decide +kernel, List.forall_mem_nil _⟩, trivial, nofun, ⟨_, rfl⟩, by decide +kernel, by
    intro data h
    injection h with h
    injection h with h
    exact h.symm, _, by decide +kernel, rfl, by decide +kernel⟩

end Sys2Proof.Tests
end

section
/-! What the operations of the table and the events of the agents can do, said once. Each step function has an inversion
lemma: if it answers a next state, that state is one of the constructors of an inductive relation. -/

namespace Sys2Proof.Machine

/-! ## The operations of the table -/

/-- What the action of a cause row does to the state after the common read (R122 to R153). -/
inductive CauseEffect (s : State) : State → Prop
  | halt (r : FatalReason) : CauseEffect s (s.readCause.raiseFatal r)
  | ret : CauseEffect s (s.readCause.setPhase .ret)
  | claim : CauseEffect s (s.readCause.setPhase .claim)

/-- An operation of format CAUSE: step DECODE with an action that has one of the effects of `CauseEffect`. -/
def IsCauseRow (i : Instr) : Prop :=
  ∃ act : State → State, (∀ s, exec i s = decodeStep act s) ∧ ∀ s, CauseEffect s (act s.readCause)

theorem isCauseRow_of_fatal {i : Instr} {r : FatalReason}
    (h : ∀ s, exec i s = decodeStep (State.raiseFatal · r) s) : IsCauseRow i := ⟨_, h, fun _ => .halt r⟩

theorem isCauseRow_of_ret {i : Instr} (h : ∀ s, exec i s = decodeStep (State.setPhase · .ret) s) : IsCauseRow i :=
  ⟨_, h, fun _ => .ret⟩

theorem isCauseRow_of_claim {i : Instr} (h : ∀ s, exec i s = decodeStep (State.setPhase · .claim) s) : IsCauseRow i :=
  ⟨_, h, fun _ => .claim⟩

theorem isCauseRow_of_syncAction {i : Instr} {c : Fin 12} (h : ∀ s, exec i s = decodeStep (State.syncAction c) s) :
    IsCauseRow i := by
  refine ⟨_, h, fun s => ?_⟩
  rcases syncAction_cases c s.readCause with ⟨-, hc⟩ | ⟨-, hc⟩ <;> rw [hc]
  · exact .halt _
  · exact .ret

/-- Every asynchronous row of the cause table is a step DECODE (R122 to R137). -/
theorem interruptRows_isCauseRow : ∀ c : Fin 16, IsCauseRow interruptRows[c]
  | 3 | 7 => isCauseRow_of_ret fun _ => rfl
  | 11 => isCauseRow_of_claim fun _ => rfl
  | 0 | 1 | 2 | 4 | 5 | 6 | 8 | 9 | 10 | 12 | 13 | 14 | 15 => isCauseRow_of_fatal fun _ => rfl
  | ⟨_ + 16, h⟩ => by omega

/-- Every synchronous row of the cause table is a step DECODE (R138 to R153). -/
theorem exceptionRows_isCauseRow : ∀ c : Fin 16, IsCauseRow exceptionRows[c]
  | 0 | 1 | 2 | 3 | 4 | 5 | 6 | 7 | 8 | 9 | 10 | 11 => isCauseRow_of_syncAction fun _ => rfl
  | 12 | 13 | 14 | 15 => isCauseRow_of_fatal fun _ => rfl
  | ⟨_ + 16, h⟩ => by omega

/-- A cause word decodes to an operation of format CAUSE (R93). -/
theorem decodeCause_isCauseRow (p : Params) (w : CauseWord) : IsCauseRow (decodeCause p w) := by
  unfold decodeCause
  have hlt := (trapCauseOf p w).code.isLt
  dsimp only
  split
  · exact interruptRows_isCauseRow ⟨_, hlt⟩
  · exact exceptionRows_isCauseRow ⟨_, hlt⟩

/-- A completed operation of format CAUSE ran in a running DECODE step, and had one of the effects of its kind. -/
theorem IsCauseRow.next {i : Instr} (hi : IsCauseRow i) {s t : State} (h : exec i s = .next t) :
    s.seq.halted = false ∧ s.seq.phase = .decode ∧ CauseEffect s t := by
  obtain ⟨act, hexec, heffect⟩ := hi
  rw [hexec] at h
  obtain ⟨hrun, hphase, rfl⟩ := decodeStep_next_iff.1 h
  exact ⟨hrun, hphase, heffect s⟩

/-- What a register access does (R94, R95): the access it records, and what it changes besides. -/
inductive AccessEffect (s : State) : Instr → State → Prop
  | read (i : Instr) (a : Access) (w : Nat) : AccessEffect s i ((s.record a).returns w)
  | write (i : Instr) (a : Access) : AccessEffect s i (s.record a)
  | plicConfig (i : Instr) (prio : Table (BitVec 3)) (ie : Table Bool) (thr : BitVec 3) (a : Access) :
      AccessEffect s i ((s.setPlic { s.plic with prio := prio, ie := ie, thr := thr }).record a)
  | claim :
      AccessEffect s .plicClaimR
        ((s.setPlic s.plic.claimWinner).memRead .claim (BitVec.ofNat 32 s.plic.winnerId))
  | complete (data : Word) :
      AccessEffect s (.plicCompleteW data) ((s.setPlic (s.plic.completeId data.toNat)).memWrite .claim data)
  | txdata (data : Word) :
      AccessEffect s (.uart0TxdataW data) ((s.pushByte (data.extractLsb' 0 8)).memWrite .txdata data)
  | uartConfig (i : Instr) (txen nstop : Bool) (txcnt : BitVec 3) (ieTxwm ieRxwm : Bool) (a : Access) :
      AccessEffect s i
        ((s.setUart
          { s.uart with txen := txen, nstop := nstop, txcnt := txcnt, ieTxwm := ieTxwm, ieRxwm := ieRxwm }).record a)
  | vector (data : Word) (aligned : vectorAligned data = true) :
      AccessEffect s (.csrTvecW data)
        ((s.setCore { s.core with tvec := data, tvecInstalled := true }).csrWrite .tvec data)
  | status (data status : Word) :
      AccessEffect s (.csrStatusW data) ((s.setCore { s.core with status := status }).csrWrite .status data).drawn
  | enables (data ie : Word) :
      AccessEffect s (.csrIeW data) ((s.setCore { s.core with ie := ie }).csrWrite .ie data).drawn

/-- An operation that is a register access: it completes only on a running sequencer, with an effect of its kind. -/
def IsAccess (i : Instr) : Prop :=
  ∀ s t : State, exec i s = .next t → s.seq.halted = false ∧ AccessEffect s i t

/-- An operation issued as one state has the effect that state shows. -/
theorem isAccess_of_issue {i : Instr} {f : State → State} (h : ∀ s, exec i s = issue s (f s))
    (hf : ∀ s, AccessEffect s i (f s)) : IsAccess i := by
  intro s t ht
  rw [h] at ht
  obtain ⟨hrun, rfl⟩ := issue_next_iff.1 ht
  exact ⟨hrun, hf s⟩

/-- The priority accesses are issued for the indexes that name a source, and refused for the others (R94). -/
theorem plicPriorityR_isAccess (idx : BitVec 6) : IsAccess (.plicPriorityR idx) := by
  cases h : srcOfIndex idx with
  | none => intro s t ht; simp [exec, execPlicPriorityR, h] at ht
  | some src =>
    exact isAccess_of_issue (f := fun s => s.memRead (.priority idx) (s.plic.prio[src].setWidth 32))
      (fun s => by simp [exec, execPlicPriorityR, h]) fun s => .read ..

theorem plicPriorityW_isAccess (idx : BitVec 6) (data : Word) : IsAccess (.plicPriorityW idx data) := by
  cases h : srcOfIndex idx with
  | none => intro s t ht; simp [exec, execPlicPriorityW, h] at ht
  | some src =>
    exact isAccess_of_issue
      (f := fun s => (s.setPlic { s.plic with prio := s.plic.prio.set src (levelOf data) }).memWrite (.priority idx) data)
      (fun s => by simp [exec, execPlicPriorityW, h]) fun s => .plicConfig ..

/-- The trap vector is written only with an aligned word (R106, R271). -/
theorem csrTvecW_isAccess (data : Word) : IsAccess (.csrTvecW data) := by
  cases h : vectorAligned data with
  | false => intro s t ht; simp [exec, execCsrTvecW, h] at ht
  | true =>
    exact isAccess_of_issue
      (f := fun s => (s.setCore { s.core with tvec := data, tvecInstalled := true }).csrWrite .tvec data)
      (fun s => by simp [exec, execCsrTvecW, h]) fun s => .vector data h

/-- Every operation of the table is a row of format CAUSE or a register access. -/
theorem isCauseRow_or_isAccess (i : Instr) : IsCauseRow i ∨ IsAccess i := by
  cases i with
  | intReserved0 | intReserved1 | intReserved2 | intReserved4 | intReserved5 | intReserved6 | intReserved8
  | intReserved9 | intReserved10 | intReserved12 | intReserved13 | intReserved14 | intReserved15
  | excReserved12 | excReserved13 | excReserved14 | excReserved15 => exact .inl (isCauseRow_of_fatal fun _ => rfl)
  | intSoftware | intTimer => exact .inl (isCauseRow_of_ret fun _ => rfl)
  | intExternal => exact .inl (isCauseRow_of_claim fun _ => rfl)
  | exc0 | exc1 | exc2 | exc3 | exc4 | exc5 | exc6 | exc7 | exc8 | exc9 | exc10 | exc11 =>
    exact .inl (isCauseRow_of_syncAction fun _ => rfl)
  | plicPriorityR idx => exact .inr (plicPriorityR_isAccess idx)
  | plicPriorityW idx data => exact .inr (plicPriorityW_isAccess idx data)
  | plicPending0R | plicPending1R | plicEnable0R | plicEnable1R | plicThresholdR | uart0TxdataR | uart0IpR | uart0IeR
  | uart0TxctrlR | csrCauseR | csrStatusR | csrIeR =>
    exact .inr (isAccess_of_issue (fun _ => rfl) fun _ => .read ..)
  | plicPending0W | plicPending1W | uart0IpW => exact .inr (isAccess_of_issue (fun _ => rfl) fun _ => .write ..)
  | plicEnable0W | plicEnable1W | plicThresholdW =>
    exact .inr (isAccess_of_issue (fun _ => rfl) fun _ => .plicConfig ..)
  | plicClaimR => exact .inr (isAccess_of_issue (fun _ => rfl) fun _ => .claim)
  | plicCompleteW data => exact .inr (isAccess_of_issue (fun _ => rfl) fun _ => .complete data)
  | uart0TxdataW data => exact .inr (isAccess_of_issue (fun _ => rfl) fun _ => .txdata data)
  | uart0IeW | uart0TxctrlW => exact .inr (isAccess_of_issue (fun _ => rfl) fun _ => .uartConfig ..)
  | csrTvecW data => exact .inr (csrTvecW_isAccess data)
  | csrStatusW data => exact .inr (isAccess_of_issue (fun _ => rfl) fun _ => .status data _)
  | csrIeW data => exact .inr (isAccess_of_issue (fun _ => rfl) fun _ => .enables data _)

/-- What a completed operation of the table has done. -/
theorem exec_next_cases {i : Instr} {s t : State} (h : exec i s = .next t) :
    s.seq.halted = false ∧ (AccessEffect s i t ∨ (s.seq.phase = .decode ∧ CauseEffect s t)) := by
  rcases isCauseRow_or_isAccess i with hi | hi
  · obtain ⟨hrun, hphase, he⟩ := hi.next h
    exact ⟨hrun, .inr ⟨hphase, he⟩⟩
  · obtain ⟨hrun, he⟩ := hi s t h
    exact ⟨hrun, .inl he⟩

/-! ## The push of a byte -/

/-- A push changes the UART and the overrun flag, and nothing else (R233, R238). -/
theorem pushByte_rest (s : State) (b : Byte) :
    (s.pushByte b).params = s.params ∧ (s.pushByte b).core = s.core ∧ (s.pushByte b).plic = s.plic ∧
      (s.pushByte b).engine = s.engine ∧ (s.pushByte b).inputs = s.inputs ∧ (s.pushByte b).fg = s.fg := by
  obtain ⟨-, hs⟩ | ⟨-, hs⟩ := pushByte_cases s b <;> simp [hs]

/-- A push into a full FIFO sets the sticky flag; the rest of the sequencer stays (R238). -/
theorem pushByte_seq (s : State) (b : Byte) :
    (s.pushByte b).seq =
      { s.seq with txOverrun := s.seq.txOverrun || !decide (s.uart.txfifo.length < s.params.txDepth) } := by
  obtain ⟨hroom, hs⟩ | ⟨hfull, hs⟩ := pushByte_cases s b <;> rw [hs]
  · simp [hroom]
  · simp [hfull]

/-! ## The steps of SEQ -/

/-- A byte written to `UART0_TXDATA` as a word is the byte that is queued (R233, R245). -/
theorem extractByte_setWidth (b : Byte) : (b.setWidth 32).extractLsb' 0 8 = b := by
  ext i hi
  simp only [BitVec.getElem_extractLsb', Nat.zero_add, BitVec.getLsbD_setWidth, BitVec.getLsbD_eq_getElem hi]
  simp only [show i < 32 by omega, decide_true, Bool.true_and]

/-- The latch of a read changes at most the foreground's word (R110). -/
theorem latchRead_eq_setFg (i : Instr) (s : State) : ∃ v : Word, latchRead i s = s.setFg { s.fg with v := v } := by
  unfold latchRead
  split
  · exact ⟨_, rfl⟩
  · exact ⟨s.fg.v, rfl⟩

/-- After the read of `UART0_IP` only the sequencer's place in the service changes (R155, R244). -/
theorem afterReadIp_eq_setSeq (s : State) :
    ∃ (ipq : Word) (bn bi : Nat) (ph : Phase),
      afterReadIp s = s.setSeq { s.seq with ipq := ipq, bn := bn, bi := bi, phase := ph } := by
  unfold afterReadIp
  split_ifs <;> exact ⟨_, _, _, _, rfl⟩

/-- What a step of SEQ does in each phase (R22, R121, R154 to R159, R244 to R246). -/
inductive SeqEffect (s : State) : State → Prop
  | stays : SeqEffect s s
  | stackPointer (rest : List Micro) (idle : s.seq.phase = .idle) (todo : s.fg.todo = .setSp :: rest) :
      SeqEffect s ((s.start rest).setCore { s.core with sp := s.params.stackTop })
  | foreground (m : Micro) (rest : List Micro) (i : Instr) (v : Word) (u : State) (idle : s.seq.phase = .idle)
      (todo : s.fg.todo = m :: rest) (instr : microInstr s m = some (.ok i))
      (access : AccessEffect (s.start rest) i u) : SeqEffect s (u.setFg { u.fg with v := v })
  | decode (t : State) (phase : s.seq.phase = .decode) (effect : CauseEffect s t) : SeqEffect s t
  | claim (phase : s.seq.phase = .claim) :
      SeqEffect s
        (afterClaim ((s.setPlic s.plic.claimWinner).memRead .claim (BitVec.ofNat 32 s.plic.winnerId)))
  | readIp (phase : s.seq.phase = .readIp) :
      SeqEffect s (afterReadIp (s.memRead .uartIp (watermarkWord (ipRxwm s.inputs) (ipTxwm s.uart))))
  | push (b : Byte) (phase : s.seq.phase = .refill) (more : s.seq.bi < s.seq.bn)
      (byte : s.params.msg[s.engine.cursor + s.seq.bi]? = some b) :
      SeqEffect s (afterPush ((s.pushByte b).memWrite .txdata (b.setWidth 32)))
  | finish (phase : s.seq.phase = .refill) (done : ¬s.seq.bi < s.seq.bn) : SeqEffect s (refillFinish s)
  | rxCount (phase : s.seq.phase = .rxcount) : SeqEffect s (rxCountStep s)
  | complete (phase : s.seq.phase = .complete) :
      SeqEffect s
        (((s.setPlic (s.plic.completeId s.seq.claimedId.toNat)).memWrite .claim s.seq.claimedId).setPhase .ret)
  | ret (phase : s.seq.phase = .ret) : SeqEffect s s.trapReturn

/-- The foreground issues the next micro-operation of its command, if it has one (R67, R110). -/
theorem foregroundStep_effect {s t : State} (idle : s.seq.phase = .idle) (h : foregroundStep s = .next t) :
    SeqEffect s t := by
  unfold foregroundStep at h
  split at h
  next => cases h; exact .stays
  next m rest htodo =>
    split at h
    next hm =>
      cases h
      cases m with
      | setSp => exact .stackPointer rest idle htodo
      | raw | op | writeOr | writeAndNot => simp [microInstr] at hm
    next => cases h
    next i hm =>
      obtain ⟨u, hu, rfl⟩ := andThen_next_iff.1 h
      obtain ⟨-, he | ⟨hdecode, -⟩⟩ := exec_next_cases hu
      · obtain ⟨v, hv⟩ := latchRead_eq_setFg i u
        rw [hv]
        exact .foreground m rest i v u idle htodo hm he
      · simp [idle] at hdecode

/-- Step DECODE runs the row of the cause word (R121). -/
theorem decodePhaseStep_effect {s t : State} (h : decodePhaseStep s = .next t) : SeqEffect s t := by
  obtain ⟨-, hphase, he⟩ := (decodeCause_isCauseRow s.params s.core.cause).next (show exec _ s = .next t from h)
  exact .decode t hphase he

/-- A refill step pushes the next byte of the burst, or finishes (R245, R246). -/
theorem refillStep_effect {s t : State} (phase : s.seq.phase = .refill) (h : refillStep s = .next t) : SeqEffect s t := by
  unfold refillStep at h
  split at h
  next more =>
    split at h
    next b hb =>
      obtain ⟨u, hu, rfl⟩ := andThen_next_iff.1 h
      obtain ⟨-, rfl⟩ := issue_next_iff.1 hu
      rw [extractByte_setWidth]
      exact .push b phase more hb
    next => cases h
  next done => cases h; exact .finish phase done

/-- A running sequencer takes the step of its phase, and a halted one stays (R22, R25). -/
theorem seqStep_next_cases {s t : State} (h : seqStep s = .next t) :
    (s.seq.halted = true ∧ t = s) ∨ (s.seq.halted = false ∧ SeqEffect s t) := by
  unfold seqStep at h
  split at h
  next hhalt => cases h; exact .inl ⟨hhalt, rfl⟩
  next hrun =>
    refine .inr ⟨by simpa using hrun, ?_⟩
    split at h
    next hp => exact foregroundStep_effect hp h
    next hp => exact decodePhaseStep_effect h
    next hp =>
      obtain ⟨u, hu, rfl⟩ := andThen_next_iff.1 h
      obtain ⟨-, rfl⟩ := issue_next_iff.1 hu
      exact .claim hp
    next hp =>
      obtain ⟨u, hu, rfl⟩ := andThen_next_iff.1 h
      obtain ⟨-, rfl⟩ := issue_next_iff.1 hu
      exact .readIp hp
    next hp => exact refillStep_effect hp h
    next hp => cases h; exact .rxCount hp
    next hp =>
      obtain ⟨u, hu, rfl⟩ := andThen_next_iff.1 h
      obtain ⟨-, rfl⟩ := issue_next_iff.1 hu
      exact .complete hp
    next hp => cases h; exact .ret hp

/-! ## The events of the agents -/

/-- A command with a single source goes on with the source its operand stands for (R107(e)). -/
theorem withSource_next {s t : State} {a : SourceArg} {f : Src → Host.Outcome State Fault Refusal}
    (h : withSource s a f = .next t) : ∃ src, resolveSource s.params a = some src ∧ f src = .next t := by
  unfold withSource at h
  split at h
  next src hsrc => exact ⟨src, hsrc, h⟩
  next => cases h

/-- A request changes nothing, or in a running foreground that is free it starts a command or halts (R110, R112). -/
theorem requestStep_next_cases {r : Request} {s t : State} (h : requestStep r s = .next t) :
    t = s ∨ (s.seq.halted = false ∧ s.seq.phase = .idle ∧ s.fg.todo = [] ∧
      ((∃ l, t = s.start l) ∨ ∃ reason, t = s.raiseFatal reason)) := by
  unfold requestStep at h
  split at h
  next => cases h; exact .inl rfl
  next hready =>
    obtain ⟨hrun, hidle, hfree⟩ : s.seq.halted = false ∧ s.seq.phase = .idle ∧ s.fg.todo = [] := by
      simpa [and_assoc] using hready
    suffices t = s ∨ (∃ l, t = s.start l) ∨ ∃ reason, t = s.raiseFatal reason from
      this.imp_right fun ht => ⟨hrun, hidle, hfree, ht⟩
    cases r with
    | claim | complete | enableTxwm | raw => cases h; exact .inr (.inl ⟨_, rfl⟩)
    | disableSource a =>
      cases a with
      | all => cases h; exact .inr (.inl ⟨_, rfl⟩)
      | number | named =>
        obtain ⟨src, -, hs⟩ := withSource_next h
        cases hs
        exact .inr (.inl ⟨_, rfl⟩)
    | enableSource a =>
      obtain ⟨src, -, hs⟩ := withSource_next h
      cases hs
      exact .inr (.inl ⟨_, rfl⟩)
    | setPriority a level =>
      obtain ⟨src, -, hs⟩ := withSource_next h
      split at hs <;> cases hs
      · exact .inr (.inr ⟨_, rfl⟩)
      · exact .inr (.inl ⟨_, rfl⟩)
    | setThreshold level =>
      dsimp only at h
      split at h <;> cases h
      · exact .inr (.inr ⟨_, rfl⟩)
      · exact .inr (.inl ⟨_, rfl⟩)
    | installVector =>
      dsimp only at h
      split at h <;> cases h
      · exact .inl rfl
      · exact .inr (.inl ⟨_, rfl⟩)

/-- What an event does (R10): nothing, or the step of its agent. -/
inductive EventEffect (s : State) : Event → State → Prop
  | stays (e : Event) : EventEffect s e s
  | seq (t : State) (running : s.seq.halted = false) (effect : SeqEffect s t) : EventEffect s .seq t
  | command (r : Request) (l : List Micro) (running : s.seq.halted = false) (idle : s.seq.phase = .idle)
      (free : s.fg.todo = []) : EventEffect s (.request r) (s.start l)
  | badLevel (r : Request) (reason : FatalReason) (running : s.seq.halted = false) (idle : s.seq.phase = .idle)
      (free : s.fg.todo = []) : EventEffect s (.request r) (s.raiseFatal reason)
  | latch (src : Src) (enabled : gatewayEnabled s src = true) :
      EventEffect s (.gateway src) (s.setPlic (s.plic.latch src))
  | send (b : Byte) (rest : List Byte) (txen : s.uart.txen = true) (queued : s.uart.txfifo = b :: rest) :
      EventEffect s .serialize (s.setUart { s.uart with txfifo := rest, txdOut := s.uart.txdOut ++ [b] })
  | line (src : Src) (level : Bool) :
      EventEffect s (.setLine src level) (s.setInputs { s.inputs with line := s.inputs.line.set src level })
  | rxwm (level : Bool) : EventEffect s (.setRxwm level) (s.setInputs { s.inputs with rxwm := level })
  | nested (w : CauseWord) (running : s.seq.halted = false) (handler : s.seq.phase ≠ .idle) :
      EventEffect s (.trap w) (s.setSeq { s.seq with nestedTrap := true })
  | entry (w : CauseWord) (running : s.seq.halted = false) (idle : s.seq.phase = .idle)
      (installed : s.core.tvecInstalled = true) : EventEffect s (.trap w) (s.trapEntry (s.params.causeBits w))
  | corePc (pc : Word) (running : s.seq.halted = false) (idle : s.seq.phase = .idle) :
      EventEffect s (.corePc pc) (s.setCore { s.core with pc := pc })
  | reset (u : PowerOn) : EventEffect s (.reset u) (resetStep u s)

/-- An event that answers a next state has one of the effects of its agent. -/
theorem agentStep_effect {e : Event} {s t : State} (h : agentStep e s = .next t) : EventEffect s e t := by
  cases e with
  | seq =>
    obtain ⟨-, rfl⟩ | ⟨hrun, he⟩ := seqStep_next_cases h
    · exact .stays _
    · exact .seq t hrun he
  | request r =>
    obtain rfl | ⟨hrun, hidle, hfree, ⟨l, rfl⟩ | ⟨reason, rfl⟩⟩ := requestStep_next_cases h
    · exact .stays _
    · exact .command r l hrun hidle hfree
    · exact .badLevel r reason hrun hidle hfree
  | gateway src =>
    cases h
    obtain ⟨hen, hs⟩ | ⟨-, hs⟩ := gatewayStep_cases src s <;> rw [hs]
    · exact .latch src hen
    · exact .stays _
  | serialize =>
    cases h
    obtain ⟨b, rest, hen, hq, hs⟩ | ⟨-, hs⟩ := serializerStep_cases s <;> rw [hs]
    · exact .send b rest hen hq
    · exact .stays _
  | setLine src level =>
    cases h
    unfold setLineStep
    split
    · exact .stays _
    · exact .line src level
  | setRxwm level => cases h; exact .rxwm level
  | trap w =>
    obtain ⟨-, rfl⟩ | ⟨hrun, -, hp, rfl⟩ | ⟨hrun, -, hp, hv, rfl⟩ := deliverTrap_next_cases h
    · exact .stays _
    · exact .nested w hrun hp
    · exact .entry w hrun hp hv
  | corePc pc =>
    cases h
    unfold corePcStep
    split
    next hen => exact .corePc pc hen.2 hen.1
    next => exact .stays _
  | reset u => cases h; exact .reset u

/-- An event is taken from the script, or chosen freely at the cost of one free value. -/
theorem takeEvent_cases (s : State) : (∃ rest, takeEvent s = s.setScript rest) ∨ takeEvent s = s.drawn := by
  unfold takeEvent
  split
  · exact .inl ⟨_, rfl⟩
  · exact .inr rfl

end Sys2Proof.Machine
end

section
/-! The invariant of the model: one rule for each update of a part of the state, then the steps assembled from them. -/

namespace Sys2Proof.Safety

open Sys2Proof.Machine

/-! ## One rule per update of a part of the state -/

section Rules

variable {s : State}

theorem Inv.record (h : Inv s) (a : Access) : Inv (s.record a) :=
  ⟨h.params, h.handshake, h.engine, h.sequencer, h.fifo, h.cause⟩

theorem Inv.returns (h : Inv s) (w : Nat) : Inv (s.returns w) :=
  ⟨h.params, h.handshake, h.engine, h.sequencer, h.fifo, h.cause⟩

theorem Inv.drawn (h : Inv s) : Inv s.drawn :=
  ⟨h.params, h.handshake, h.engine, h.sequencer, h.fifo, h.cause⟩

theorem Inv.setScript (h : Inv s) (l : List Event) : Inv (s.setScript l) :=
  ⟨h.params, h.handshake, h.engine, h.sequencer, h.fifo, h.cause⟩

theorem Inv.setFg (h : Inv s) (f : ForegroundState) : Inv (s.setFg f) :=
  ⟨h.params, h.handshake, h.engine, h.sequencer, h.fifo, h.cause⟩

theorem Inv.setInputs (h : Inv s) (i : InputState) : Inv (s.setInputs i) :=
  ⟨h.params, h.handshake, h.engine, h.sequencer, h.fifo, h.cause⟩

theorem Inv.setUart (h : Inv s) {u : UartState} (hu : u.txfifo.length ≤ s.params.txDepth) : Inv (s.setUart u) :=
  ⟨h.params, h.handshake, h.engine, h.sequencer, hu, h.cause⟩

/-- An engine update outside phase REFILL, where no burst is tied to the cursor. -/
theorem Inv.setEngine (h : Inv s) {e : EngineState} (hphase : s.seq.phase ≠ .refill)
    (hlt : e.cursor < s.params.msg.length) (hdvd : s.params.burst ∣ e.cursor) (hrx : e.rxCount < 2 ^ s.params.rxBits) :
    Inv (s.setEngine e) :=
  ⟨h.params, h.handshake, ⟨hlt, hdvd, hrx, fun hp => absurd hp hphase⟩, h.sequencer, h.fifo, h.cause⟩

/-- A PLIC update that leaves the sources in service there while one is served. -/
theorem Inv.setPlic (h : Inv s) {p : PlicState} (hok : HandshakeOk p)
    (hserved : serving s.seq.phase = true → ∀ src : Src, s.plic.insvc[src] = true → p.insvc[src] = true) :
    Inv (s.setPlic p) := by
  obtain ⟨hmie, hinst, halign, hfatal, hserve⟩ := h.sequencer
  refine ⟨h.params, hok, h.engine, ⟨hmie, hinst, halign, hfatal, fun hs => ?_⟩, h.fifo, h.cause⟩
  obtain ⟨src, hid, hsvc⟩ := hserve hs
  exact ⟨src, hid, hserved hs src hsvc⟩

/-- A core update that keeps interrupts off and the vector installed in the handler. -/
theorem Inv.setCore (h : Inv s) {c : CoreState}
    (hhandler : s.seq.phase ≠ .idle → c.mie = false ∧ c.tvecInstalled = true)
    (haligned : c.tvecInstalled = true → vectorAligned c.tvec = true) (hcause : c.cause < 2 ^ s.params.xlen) :
    Inv (s.setCore c) := by
  obtain ⟨-, -, -, hfatal, hserve⟩ := h.sequencer
  exact ⟨h.params, h.handshake, h.engine,
    ⟨fun hp => (hhandler hp).1, fun hp => (hhandler hp).2, haligned, hfatal, hserve⟩, h.fifo, hcause⟩

/-- A sequencer update: what the new phase needs of the core, of the burst and of the source in service. -/
theorem Inv.setSeq (h : Inv s) {q : SeqState}
    (hhandler : q.phase ≠ .idle → s.core.mie = false ∧ s.core.tvecInstalled = true)
    (hburst : q.phase = .refill → q.bn = burstLength s.params s.engine.cursor ∧ q.bi ≤ q.bn)
    (hfatal : q.halted = true ↔ q.fatalReason ≠ none)
    (hserve : serving q.phase = true → ∃ src : Src, q.claimedId.toNat = Src.id src ∧ s.plic.insvc[src] = true) :
    Inv (s.setSeq q) := by
  obtain ⟨-, -, halign, -, -⟩ := h.sequencer
  obtain ⟨hlt, hdvd, hrx, -⟩ := h.engine
  exact ⟨h.params, h.handshake, ⟨hlt, hdvd, hrx, hburst⟩,
    ⟨fun hp => (hhandler hp).1, fun hp => (hhandler hp).2, halign, hfatal, hserve⟩, h.fifo, h.cause⟩

/-! ## What the invariant says by phase -/

/-- In the handler interrupts are off and the vector is installed (R299, R305). -/
theorem Inv.handler (h : Inv s) (hp : s.seq.phase ≠ .idle) : s.core.mie = false ∧ s.core.tvecInstalled = true := by
  obtain ⟨hmie, hinst, -, -, -⟩ := h.sequencer
  exact ⟨hmie hp, hinst hp⟩

theorem Inv.aligned (h : Inv s) (hv : s.core.tvecInstalled = true) : vectorAligned s.core.tvec = true := by
  obtain ⟨-, -, halign, -, -⟩ := h.sequencer
  exact halign hv

theorem Inv.fatal_iff (h : Inv s) : s.seq.halted = true ↔ s.seq.fatalReason ≠ none := by
  obtain ⟨-, -, -, hfatal, -⟩ := h.sequencer
  exact hfatal

theorem Inv.served (h : Inv s) (hp : serving s.seq.phase = true) :
    ∃ src : Src, s.seq.claimedId.toNat = Src.id src ∧ s.plic.insvc[src] = true := by
  obtain ⟨-, -, -, -, hserve⟩ := h.sequencer
  exact hserve hp

theorem Inv.burst (h : Inv s) (hp : s.seq.phase = .refill) :
    s.seq.bn = burstLength s.params s.engine.cursor ∧ s.seq.bi ≤ s.seq.bn := by
  obtain ⟨-, -, -, hburst⟩ := h.engine
  exact hburst hp

/-- The message is not empty (R7(a)). -/
theorem Inv.msg_pos (h : Inv s) : 0 < s.params.msg.length := by
  obtain ⟨hlt, -, -, -⟩ := h.engine
  omega

/-- Every phase that serves a source lies in the handler. -/
theorem ne_idle_of_serving {ph : Phase} (h : serving ph = true) : ph ≠ .idle := by
  rintro rfl
  cases h

/-! ## Derived rules for the sequencer -/

/-- A phase that serves no source: only the core matters. -/
theorem Inv.setPhase_of_not_serving (h : Inv s) {ph : Phase} (hph : serving ph = false)
    (hhandler : ph ≠ .idle → s.core.mie = false ∧ s.core.tvecInstalled = true) : Inv (s.setPhase ph) := by
  refine h.setSeq hhandler (fun hr => ?_) h.fatal_iff fun hs => ?_
  · subst hr
    cases hph
  · exact absurd hs (by simp [hph])

/-- The end of the device's work goes to phase COMPLETE with the source still served (R155, R157, R246). -/
theorem Inv.setPhase_complete (h : Inv s) (hs : serving s.seq.phase = true) : Inv (s.setPhase .complete) :=
  h.setSeq (fun _ => h.handler (ne_idle_of_serving hs)) nofun h.fatal_iff fun _ => h.served hs

/-- A fatal halt records its reason and changes nothing else (R311). -/
theorem Inv.raiseFatal (h : Inv s) (r : FatalReason) : Inv (s.raiseFatal r) :=
  h.setSeq h.handler h.burst (by simp) h.served

theorem Inv.readCause (h : Inv s) : Inv s.readCause :=
  ((h.record _).returns _).setSeq h.handler h.burst h.fatal_iff h.served

/-- A write of a PLIC configuration register leaves pending and in-service bits alone. -/
theorem Inv.setPlicConfig (h : Inv s) (prio : Table (BitVec 3)) (ie : Table Bool) (thr : BitVec 3) :
    Inv (s.setPlic { s.plic with prio := prio, ie := ie, thr := thr }) :=
  h.setPlic h.handshake fun _ _ hsrc => hsrc

theorem Inv.setUartConfig (h : Inv s) (txen nstop : Bool) (txcnt : BitVec 3) (ieTxwm ieRxwm : Bool) :
    Inv (s.setUart
      { s.uart with txen := txen, nstop := nstop, txcnt := txcnt, ieTxwm := ieTxwm, ieRxwm := ieRxwm }) :=
  h.setUart h.fifo

/-- An aligned word may become the vector (R106, R271). -/
theorem Inv.setVector (h : Inv s) {data : Word} (aligned : vectorAligned data = true) :
    Inv (s.setCore { s.core with tvec := data, tvecInstalled := true }) :=
  h.setCore (fun hp => ⟨(h.handler hp).1, rfl⟩) (fun _ => aligned) h.cause

/-- In the foreground the enable of interrupts is free to change. -/
theorem Inv.setStatus (h : Inv s) (idle : s.seq.phase = .idle) (status : Word) :
    Inv (s.setCore { s.core with status := status }) :=
  h.setCore (fun hp => absurd idle hp) h.aligned h.cause

theorem Inv.setIe (h : Inv s) (ie : Word) : Inv (s.setCore { s.core with ie := ie }) :=
  h.setCore h.handler h.aligned h.cause

theorem Inv.start (h : Inv s) (l : List Micro) : Inv (s.start l) := h.setFg _

/-- A pushed byte has room, or is dropped with the flag (R233, R238). -/
theorem Inv.pushByte (h : Inv s) (b : Byte) : Inv (s.pushByte b) := by
  obtain ⟨hroom, hs⟩ | ⟨-, hs⟩ := pushByte_cases s b <;> rw [hs]
  · exact h.setUart (by simpa using hroom)
  · exact h.setSeq h.handler h.burst h.fatal_iff h.served

end Rules

/-! ## PLIC effects and the handshake (R38) -/

section Handshake

variable {p : PlicState}

/-- The claim moves its winner from pending to in service. -/
theorem HandshakeOk.claimWinner (h : HandshakeOk p) : HandshakeOk p.claimWinner := by
  intro src hsrc
  rw [claimWinner_ip]
  rw [claimWinner_insvc] at hsrc
  split
  · rfl
  next hw => exact h src (by simpa [hw] using hsrc)

/-- The complete only clears an in-service bit. -/
theorem HandshakeOk.completeId (h : HandshakeOk p) (n : Nat) : HandshakeOk (p.completeId n) := by
  intro src hsrc
  obtain ⟨-, hip, -, -⟩ := completeId_rest p n
  rw [completeId_insvc] at hsrc
  rw [hip]
  exact h src (by simpa using (ite_eq_iff.1 hsrc).resolve_left (by simp) |>.2)

/-- The gateway latches only a source that is not in service (R176). -/
theorem HandshakeOk.latch (h : HandshakeOk p) {w : Src} (hw : p.insvc[w] = false) : HandshakeOk (p.latch w) := by
  intro src hsrc
  have hsvc : p.insvc[src] = true := hsrc
  have hne : w ≠ src := by
    rintro rfl
    simp [hw] at hsvc
  rw [latch_ip, if_neg hne]
  exact h src hsvc

/-- What was in service stays so under a claim. -/
theorem claimWinner_insvc_of_insvc {src : Src} (h : p.insvc[src] = true) : p.claimWinner.insvc[src] = true := by
  rw [claimWinner_insvc, h]
  simp

/-- The winner's id is a source's, in service after the claim, or 0 (R100, R180). -/
theorem winnerId_cases (p : PlicState) :
    p.winnerId = 0 ∨ ∃ src : Src, p.winnerId = Src.id src ∧ p.claimWinner.insvc[src] = true := by
  cases h : p.winner with
  | none => exact .inl (by simp [PlicState.winnerId, h])
  | some src => exact .inr ⟨src, by simp [PlicState.winnerId, h], by rw [claimWinner_insvc, if_pos h]⟩

/-- The winner's id fits a word. -/
theorem winnerId_le (p : PlicState) : p.winnerId ≤ 52 := by
  obtain h | ⟨src, h, -⟩ := winnerId_cases p
  · omega
  · have := id_bounds src
    omega

theorem toNat_winnerWord (p : PlicState) : (BitVec.ofNat 32 p.winnerId).toNat = p.winnerId := by
  have := winnerId_le p
  rw [BitVec.toNat_ofNat]
  omega

end Handshake

/-! ## Operations -/

section Steps

variable {s t : State}

/-- Step DECODE ends in the handler, serving no source, or halts (R121). -/
theorem Inv.causeEffect (h : Inv s) (hp : s.seq.phase = .decode) (he : CauseEffect s t) : Inv t := by
  have hhandler := h.handler (by simp [hp])
  cases he with
  | halt r => exact h.readCause.raiseFatal r
  | ret => exact h.readCause.setPhase_of_not_serving rfl fun _ => hhandler
  | claim => exact h.readCause.setPhase_of_not_serving rfl fun _ => hhandler

/-- In the foreground any register access keeps the invariant: no source is being served, and the enable of interrupts
is free to change. -/
theorem Inv.accessEffect (h : Inv s) (idle : s.seq.phase = .idle) {i : Instr} (he : AccessEffect s i t) : Inv t := by
  have hnotServing : serving s.seq.phase ≠ true := by simp [idle, serving]
  cases he with
  | read _ a w => exact (h.record a).returns w
  | write _ a => exact h.record a
  | plicConfig _ prio ie thr a => exact (h.setPlicConfig prio ie thr).record a
  | claim => exact ((h.setPlic h.handshake.claimWinner fun hs => absurd hs hnotServing).record _).returns _
  | complete data => exact (h.setPlic (h.handshake.completeId _) fun hs => absurd hs hnotServing).record _
  | txdata data => exact (h.pushByte _).record _
  | uartConfig _ txen nstop txcnt ieTxwm ieRxwm a =>
    exact (h.setUartConfig txen nstop txcnt ieTxwm ieRxwm).record a
  | vector data aligned => exact (h.setVector aligned).record _
  | status data status => exact ((h.setStatus idle status).record _).drawn
  | enables data ie => exact ((h.setIe ie).record _).drawn

/-! ## The steps of SEQ -/

/-- Step CLAIM: the phases that serve a source are chosen only for an id that the claim put in service (R154). -/
theorem Inv.claimStep (h : Inv s) (hp : s.seq.phase = .claim) :
    Inv (afterClaim ((s.setPlic s.plic.claimWinner).memRead .claim (BitVec.ofNat 32 s.plic.winnerId))) := by
  have hclaimed : Inv ((s.setPlic s.plic.claimWinner).memRead .claim (BitVec.ofNat 32 s.plic.winnerId)) :=
    ((h.setPlic h.handshake.claimWinner fun _ _ => claimWinner_insvc_of_insvc).record _).returns _
  refine hclaimed.setSeq (fun _ => h.handler (by simp [hp])) (fun hr => ?_) h.fatal_iff fun hs => ?_
  · simp only [ite_eq_iff, reduceCtorEq, and_false, or_self] at hr
  · simp only [State.memRead_rdata, State.memRead_plic, State.setPlic_plic, toNat_winnerWord] at hs ⊢
    obtain h0 | hsrc := winnerId_cases s.plic
    · simp [h0, serving] at hs
    · exact hsrc

/-- Step READ_IP: the source stays served, and a refill starts with the burst of its cursor (R155, R244). -/
theorem Inv.afterReadIp (h : Inv s) (hp : s.seq.phase = .readIp) : Inv (afterReadIp s) := by
  have hserving : serving s.seq.phase = true := by simp [hp, serving]
  have hhandler := h.handler (ne_idle_of_serving hserving)
  unfold Machine.afterReadIp
  split_ifs
  · exact h.setSeq (fun _ => hhandler) (fun _ => ⟨rfl, Nat.zero_le _⟩) h.fatal_iff fun _ => h.served hserving
  · exact h.setSeq (fun _ => hhandler) nofun h.fatal_iff fun _ => h.served hserving
  · exact h.setSeq (fun _ => hhandler) nofun h.fatal_iff fun _ => h.served hserving

/-- The count of a push stays within the burst (R245). -/
theorem Inv.afterPush (h : Inv s) (hp : s.seq.phase = .refill) (hmore : s.seq.bi < s.seq.bn) : Inv (afterPush s) := by
  obtain ⟨hbn, -⟩ := h.burst hp
  exact h.setSeq h.handler (fun _ => ⟨hbn, hmore⟩) h.fatal_iff h.served

theorem Inv.pushStep (h : Inv s) (hp : s.seq.phase = .refill) (hmore : s.seq.bi < s.seq.bn) (b : Byte) (w : Word) :
    Inv (Machine.afterPush ((s.pushByte b).memWrite .txdata w)) :=
  Inv.afterPush ((h.pushByte b).record _) (by simpa [pushByte_seq] using hp) (by simpa [pushByte_seq] using hmore)

/-- The cursor stays a multiple of `B` below `L` (R246, R248). -/
theorem cursorNext_lt {p : Params} (hmsg : 0 < p.msg.length) (c : Nat) : cursorNext p c < p.msg.length := by
  unfold cursorNext
  split <;> assumption

theorem dvd_cursorNext {p : Params} {c : Nat} (h : p.burst ∣ c) : p.burst ∣ cursorNext p c := by
  unfold cursorNext
  split
  · exact Nat.dvd_add h dvd_rfl
  · exact dvd_zero _

/-- The refill finish advances the cursor and completes (R246). -/
theorem Inv.refillFinish (h : Inv s) (hp : s.seq.phase = .refill) : Inv (refillFinish s) := by
  obtain ⟨-, hdvd, hrx, -⟩ := h.engine
  have hcomplete : Inv (s.setPhase .complete) := h.setPhase_complete (by simp [hp, serving])
  exact hcomplete.setEngine nofun (cursorNext_lt h.msg_pos _) (dvd_cursorNext hdvd) hrx

/-- Step RXCOUNT counts within its width (R157). -/
theorem Inv.rxCountStep (h : Inv s) (hp : s.seq.phase = .rxcount) : Inv (rxCountStep s) := by
  obtain ⟨hlt, hdvd, -, -⟩ := h.engine
  have hcomplete : Inv (s.setPhase .complete) := h.setPhase_complete (by simp [hp, serving])
  exact hcomplete.setEngine nofun hlt hdvd (Nat.mod_lt _ (Nat.two_pow_pos _))

/-- Step COMPLETE releases its source once no phase serves it any more (R158). -/
theorem Inv.completeStep (h : Inv s) (hp : s.seq.phase = .complete) (n : Nat) (w : Word) :
    Inv (((s.setPlic (s.plic.completeId n)).memWrite .claim w).setPhase .ret) := by
  have hret : Inv (s.setPhase .ret) := h.setPhase_of_not_serving rfl fun _ => h.handler (by simp [hp])
  exact (hret.setPlic (h.handshake.completeId n) nofun).record _

/-- The trap return leaves the handler before interrupts can be on (R304). -/
theorem Inv.trapReturn (h : Inv s) : Inv s.trapReturn := by
  have hidle : Inv (s.setPhase .idle) := h.setPhase_of_not_serving rfl nofun
  exact hidle.setCore (fun hp => absurd rfl hp) h.aligned h.cause

/-- Trap entry turns interrupts off (R299). -/
theorem mie_trapEntry (s : State) (w : CauseWord) : (s.trapEntry w).core.mie = false := by
  exact (withBit_getLsbD _ 3 false 3 (by omega)).trans (if_pos rfl)

theorem Inv.trapEntry (h : Inv s) (idle : s.seq.phase = .idle) (hv : s.core.tvecInstalled = true) {w : CauseWord}
    (hw : w < 2 ^ s.params.xlen) : Inv (s.trapEntry w) := by
  refine Inv.setPhase_of_not_serving (h.setCore ?_ ?_ ?_) rfl fun _ => ⟨mie_trapEntry s w, hv⟩
  · exact fun hp => absurd idle hp
  · exact h.aligned
  · exact hw

/-- Every step of SEQ keeps the invariant. -/
theorem Inv.seqEffect (h : Inv s) (he : SeqEffect s t) : Inv t := by
  cases he with
  | stays => exact h
  | stackPointer rest idle todo => exact (h.start rest).setCore h.handler h.aligned h.cause
  | foreground m rest i v u idle todo instr access => exact ((h.start rest).accessEffect idle access).setFg _
  | decode _ phase effect => exact h.causeEffect phase effect
  | claim phase => exact h.claimStep phase
  | readIp phase => exact ((h.record _).returns _).afterReadIp phase
  | push b phase more byte => exact h.pushStep phase more b _
  | finish phase done => exact h.refillFinish phase
  | rxCount phase => exact h.rxCountStep phase
  | complete phase => exact h.completeStep phase _ _
  | ret phase => exact h.trapReturn

/-! ## Reset -/

/-- Reset clears the enable of interrupts (R48). -/
theorem mie_resetWith (p : Params) (u : PowerOn) : (State.resetWith p u).core.mie = false := by
  simp [State.resetWith, CoreState.mie]

/-- A well-formed message is not empty (R7(a)). -/
theorem msg_pos_of_wf {p : Params} (hp : p.wf = true) : 0 < p.msg.length := by
  simp only [Params.wf, Bool.and_eq_true, Bool.not_eq_true', List.isEmpty_eq_false_iff] at hp
  obtain ⟨⟨⟨⟨⟨-, hmsg⟩, -⟩, -⟩, -⟩, -⟩ := hp
  exact List.length_pos_iff.2 hmsg

/-- Reset establishes the invariant for any well-formed parameters (R48, R340). -/
theorem inv_resetWith {p : Params} (u : PowerOn) (hp : p.wf = true) : Inv (State.resetWith p u) where
  params := hp
  handshake := by simp [HandshakeOk, State.resetWith]
  engine := ⟨msg_pos_of_wf hp, dvd_zero _, Nat.two_pow_pos _, nofun⟩
  sequencer := ⟨fun _ => mie_resetWith p u, fun hph => absurd rfl hph, nofun, by simp [State.resetWith], nofun⟩
  fifo := Nat.zero_le _
  cause := causeBits_lt p u.cause

/-- A reset event leaves the script and the count of free values, which the invariant does not look at. -/
theorem Inv.resetStep (h : Inv s) (u : PowerOn) : Inv (resetStep u s) :=
  have hreset := inv_resetWith u h.params
  ⟨hreset.params, hreset.handshake, hreset.engine, hreset.sequencer, hreset.fifo, hreset.cause⟩

/-! ## Every event -/

/-- Every event of every agent keeps the invariant. -/
theorem Inv.eventEffect (h : Inv s) {e : Event} (he : EventEffect s e t) : Inv t := by
  cases he with
  | stays => exact h
  | seq _ running effect => exact h.seqEffect effect
  | command r l => exact h.setFg _
  | badLevel r reason => exact h.raiseFatal reason
  | latch src enabled =>
    have hsvc : s.plic.insvc[src] = false := by
      simp only [gatewayEnabled, Bool.and_eq_true, Bool.not_eq_true'] at enabled
      exact enabled.2
    exact h.setPlic (h.handshake.latch hsvc) fun _ _ hsrc => hsrc
  | send b rest txen queued =>
    have hfifo := h.fifo
    rw [queued, List.length_cons] at hfifo
    exact h.setUart (Nat.le_of_succ_le hfifo)
  | line | rxwm => exact h.setInputs _
  | nested => exact h.setSeq h.handler h.burst h.fatal_iff h.served
  | entry w running idle installed => exact h.trapEntry idle installed (causeBits_lt _ _)
  | corePc pc running idle => exact h.setCore h.handler h.aligned h.cause
  | reset u => exact h.resetStep u

theorem Inv.takeEvent (h : Inv s) : Inv (takeEvent s) := by
  obtain ⟨rest, hs⟩ | hs := takeEvent_cases s <;> rw [hs]
  · exact h.setScript rest
  · exact h.drawn

end Steps

end Sys2Proof.Safety
end

section
/-! The statements of the state family, settled from the effects of the steps. -/

namespace Sys2Proof.Proofs

open Sys2Proof.Machine Sys2Proof.Safety Sys2Proof.Claims

/-! ## The invariant -/

/-- Settles O51: the next event happens in the state that has taken it, and every event keeps the invariant. -/
theorem everyStepKeepsTheInvariant : Obligations.EveryStepKeepsTheInvariant := by
  intro s t hs hstep
  exact hs.takeEvent.eventEffect (agentStep_effect hstep)

/-- The default map and numbers are usable (R64, R294). -/
theorem defaults_wf : AddrMap.default.wf = true ∧ CsrMap.default.wf = true ∧ SrcMap.default.wf = true := by
  decide +kernel

/-- `HANDLER_ENTRY` ends in two zero bits, whatever its other bits are (R7(d)). -/
theorem append_two_zeros_mod_four (w : BitVec 30) : (w ++ 0#2).toNat % 4 = 0 := by
  rw [BitVec.toNat_append, BitVec.toNat_ofNat, Nat.zero_mod, Nat.or_zero, Nat.shiftLeft_eq]
  exact Nat.mul_mod_left _ 4

/-- The parameters of `State.reset` are well-formed, whatever the constants the spec leaves open are. -/
theorem config_params_wf : Config.params.wf = true := by
  obtain ⟨hmap, hcsr, hsrc⟩ := defaults_wf
  simp [Params.wf, Params.xlenOk, Config.params, hmap, hcsr, hsrc, append_two_zeros_mod_four]

/-- Settles O52. -/
theorem resetEstablishesTheInvariant : Obligations.ResetEstablishesTheInvariant :=
  ⟨fun _ u hp => inv_resetWith u hp, inv_resetWith _ config_params_wf⟩

/-! ## Cause rows outside their preconditions -/

/-- Settles O7: every cause word decodes to a row of format CAUSE, whose meaning is the guarded step DECODE. -/
theorem causeRowsNeedRunningDecode : Obligations.CauseRowsNeedRunningDecode := by
  intro p w i s hdecode
  obtain rfl : decodeCause p w = i := Except.ok.inj hdecode
  obtain ⟨act, hexec, -⟩ := decodeCause_isCauseRow p w
  rw [hexec]
  constructor
  · intro hhalt
    simp [decodeStep, hhalt]
  · intro hrun hphase
    simp [decodeStep, hrun, hphase]

/-! ## The halted machine -/

/-- While halted an event other than reset changes nothing but a pending bit, the FIFO with its history, or a free
input (R25, R311). -/
theorem agentStep_of_halted {s : State} (hhalt : s.seq.halted = true) {e : Event} (he : ∀ u : PowerOn, e ≠ .reset u) :
    agentStep e s = .next s ∨ (∃ src, agentStep e s = .next (s.setPlic (s.plic.latch src))) ∨
      (∃ b rest, s.uart.txfifo = b :: rest ∧
        agentStep e s = .next (s.setUart { s.uart with txfifo := rest, txdOut := s.uart.txdOut ++ [b] })) ∨
      ∃ i, agentStep e s = .next (s.setInputs i) := by
  cases e with
  | seq => exact .inl (by simp [agentStep, seqStep, hhalt])
  | request r => exact .inl (by simp [agentStep, requestStep, hhalt])
  | trap w => exact .inl (by simp [agentStep, deliverTrap, hhalt])
  | corePc pc => exact .inl (by simp [agentStep, corePcStep, hhalt])
  | gateway src =>
    obtain ⟨-, hs⟩ | ⟨-, hs⟩ := gatewayStep_cases src s
    · exact .inr (.inl ⟨src, congrArg _ hs⟩)
    · exact .inl (congrArg _ hs)
  | serialize =>
    obtain ⟨b, rest, -, hq, hs⟩ | ⟨-, hs⟩ := serializerStep_cases s
    · exact .inr (.inr (.inl ⟨b, rest, hq, congrArg _ hs⟩))
    · exact .inl (congrArg _ hs)
  | setLine src level =>
    by_cases hsrc : src = s.params.src.uart0
    · exact .inl (congrArg _ (if_pos hsrc))
    · exact .inr (.inr (.inr ⟨_, congrArg _ (if_neg hsrc)⟩))
  | setRxwm level => exact .inr (.inr (.inr ⟨_, rfl⟩))
  | reset u => exact absurd rfl (he u)

/-- Settles O54. -/
theorem haltIsSticky : Obligations.HaltIsSticky := by
  intro s e hhalt he
  obtain h | ⟨src, h⟩ | ⟨b, rest, hq, h⟩ | ⟨i, h⟩ := agentStep_of_halted hhalt he
  · exact ⟨_, h, by simp⟩
  · refine ⟨_, h, ?_⟩
    have hip : ∀ c : Src, s.plic.ip[c] = true → (s.plic.latch src).ip[c] = true := fun c hc => by
      rw [latch_ip, hc, ite_self]
    simpa [PlicState.latch] using hip
  · exact ⟨_, h, by simp [hq]⟩
  · exact ⟨_, h, by simp⟩

/-! ## Sticky flags -/

/-- The flags that only reset clears are kept once set (R26, R340). -/
def FlagsKept (q r : SeqState) : Prop :=
  (q.txOverrun = true → r.txOverrun = true) ∧ (q.nestedTrap = true → r.nestedTrap = true)

theorem FlagsKept.of_eq {q r : SeqState} (ho : r.txOverrun = q.txOverrun) (hn : r.nestedTrap = q.nestedTrap) :
    FlagsKept q r := ⟨fun h => ho.trans h, fun h => hn.trans h⟩

/-- A push sets the overrun flag or leaves it (R238). -/
theorem flagsKept_pushByte (s : State) (b : Byte) : FlagsKept s.seq (s.pushByte b).seq := by
  rw [pushByte_seq]
  exact ⟨fun h => by simp [h], id⟩

theorem flagsKept_accessEffect {s t : State} {i : Instr} (he : AccessEffect s i t) : FlagsKept s.seq t.seq := by
  cases he with
  | txdata data => exact flagsKept_pushByte s _
  | read | write | plicConfig | claim | complete | uartConfig | vector | status | enables => exact .of_eq rfl rfl

theorem flagsKept_causeEffect {s t : State} (he : CauseEffect s t) : FlagsKept s.seq t.seq := by
  cases he <;> exact .of_eq rfl rfl

theorem flagsKept_seqEffect {s t : State} (he : SeqEffect s t) : FlagsKept s.seq t.seq := by
  cases he with
  | foreground m rest i v u idle todo instr access =>
    have hkept := flagsKept_accessEffect access
    exact hkept
  | decode _ phase effect => exact flagsKept_causeEffect effect
  | readIp phase =>
    obtain ⟨ipq, bn, bi, ph, hs⟩ := afterReadIp_eq_setSeq (s.memRead .uartIp _)
    rw [hs]
    exact .of_eq rfl rfl
  | push b phase more byte => exact flagsKept_pushByte s b
  | stays | stackPointer | claim | finish | rxCount | complete | ret => exact .of_eq rfl rfl

/-- Only the push of a byte and a nested trap touch a flag, and they set it; the rest of the events leave both. -/
theorem flagsKept_eventEffect {s t : State} {e : Event} (he : EventEffect s e t) (hreset : ∀ u : PowerOn, e ≠ .reset u) :
    FlagsKept s.seq t.seq := by
  cases he with
  | seq _ running effect => exact flagsKept_seqEffect effect
  | nested w running handler => exact ⟨id, fun _ => rfl⟩
  | reset u => exact absurd rfl (hreset u)
  | stays | command | badLevel | latch | send | line | rxwm | entry | corePc => exact .of_eq rfl rfl

/-- A word with a bit cleared keeps its other bits. -/
theorem getLsbD_clear_mie (w : Word) {b : Nat} (hb : b ≠ 3) : (w &&& ~~~8#32).getLsbD b = w.getLsbD b := by
  by_cases hlt : b < 32
  · simpa [withBit, hb] using withBit_getLsbD w 3 false b hlt
  · rw [BitVec.getLsbD_of_ge _ b (by omega), BitVec.getLsbD_of_ge _ b (by omega)]

/-- Settles O46: the values of the table are those of `State.resetWith`; a halt stays by `haltIsSticky`. -/
theorem resetPutsTheTable : Obligations.ResetPutsTheTable := by
  constructor
  · intro s u
    have hmie : (resetStep u s).core.mie = false := mie_resetWith s.params u
    have hstatus : ∀ b, b ≠ 3 → (resetStep u s).core.status.getLsbD b = u.status.getLsbD b := fun b hb =>
      getLsbD_clear_mie u.status hb
    have htables : ∀ src : Src, (resetStep u s).plic.ip[src] = false ∧ (resetStep u s).plic.insvc[src] = false := by
      simp [resetStep, State.resetWith]
    exact ⟨resetStep u s, rfl, rfl, rfl, rfl, rfl, rfl, rfl, hmie, htables, rfl, rfl, rfl, rfl, hstatus, rfl, rfl, rfl,
      rfl, rfl, rfl, rfl, rfl, rfl, rfl, rfl, rfl, rfl, rfl⟩
  · intro s t e hreset hstep
    refine ⟨fun hhalt => ?_, flagsKept_eventEffect (agentStep_effect hstep) hreset⟩
    obtain ⟨t', hstep', -, hseq, -⟩ := haltIsSticky s e hhalt hreset
    obtain rfl : t' = t := Host.Outcome.next.inj (hstep'.symm.trans hstep)
    exact ⟨by rw [hseq, hhalt], by rw [hseq]⟩

/-! ## The refill engine -/

/-- What no operation of the table touches (R45, R351). -/
def OutsideKept (s t : State) : Prop :=
  t.engine = s.engine ∧ t.inputs = s.inputs ∧ t.params = s.params ∧ t.fg = s.fg

theorem outsideKept_accessEffect {s t : State} {i : Instr} (he : AccessEffect s i t) : OutsideKept s t := by
  cases he with
  | txdata data =>
    obtain ⟨hparams, -, -, hengine, hinputs, hfg⟩ := pushByte_rest s (data.extractLsb' 0 8)
    exact ⟨hengine, hinputs, hparams, hfg⟩
  | read | write | plicConfig | claim | complete | uartConfig | vector | status | enables => exact ⟨rfl, rfl, rfl, rfl⟩

theorem outsideKept_causeEffect {s t : State} (he : CauseEffect s t) : OutsideKept s t := by
  cases he <;> exact ⟨rfl, rfl, rfl, rfl⟩

/-- In the foreground a step of SEQ is one access at most, so the engine stays. -/
theorem engine_of_seqEffect_idle {s t : State} (idle : s.seq.phase = .idle) (he : SeqEffect s t) :
    t.engine = s.engine := by
  cases he with
  | stays | stackPointer => rfl
  | foreground m rest i v u _ todo instr access => exact (outsideKept_accessEffect access).1
  | decode _ phase | claim phase | readIp phase | push _ phase | finish phase | rxCount phase | complete phase
  | ret phase => simp [idle] at phase

/-- Settles O55. -/
theorem cursorBelongsToTheHandler : Obligations.CursorBelongsToTheHandler := by
  constructor
  · intro i s t hexec
    obtain ⟨-, haccess | ⟨-, hcause⟩⟩ := exec_next_cases hexec
    · exact outsideKept_accessEffect haccess
    · exact outsideKept_causeEffect hcause
  · intro s t e idle hreset hstep
    cases agentStep_effect hstep with
    | seq _ running effect => exact engine_of_seqEffect_idle idle effect
    | reset u => exact absurd rfl (hreset u)
    | stays | command | badLevel | latch | send | line | rxwm | nested | entry | corePc => rfl

/-! ## The transmitted bytes -/

/-- The bytes sent, then the bytes queued: the output so far in its order (R40, R41). -/
def outputBytes (u : UartState) : List Byte := u.txdOut ++ u.txfifo

/-- The output grows at the end only, by at most one byte, and what was sent stays sent (R236). -/
def OutputGrows (u v : UartState) : Prop :=
  (outputBytes v = outputBytes u ∨ ∃ b : Byte, outputBytes v = outputBytes u ++ [b]) ∧ u.txdOut <+: v.txdOut

theorem OutputGrows.refl (u : UartState) : OutputGrows u u := ⟨.inl rfl, [], List.append_nil _⟩

/-- A push queues its byte at the end, or drops it (R233, R238). -/
theorem outputGrows_pushByte (s : State) (b : Byte) : OutputGrows s.uart (s.pushByte b).uart := by
  obtain ⟨-, hs⟩ | ⟨-, hs⟩ := pushByte_cases s b <;> rw [hs]
  · exact ⟨.inr ⟨b, (List.append_assoc ..).symm⟩, [], List.append_nil _⟩
  · exact .refl _

/-- The serializer moves the oldest byte queued to the end of those sent (R236). -/
theorem outputGrows_send {u : UartState} {b : Byte} {rest : List Byte} (h : u.txfifo = b :: rest) :
    OutputGrows u { u with txfifo := rest, txdOut := u.txdOut ++ [b] } :=
  ⟨.inl (by simp [outputBytes, h]), [b], rfl⟩

theorem outputGrows_accessEffect {s t : State} {i : Instr} (he : AccessEffect s i t) : OutputGrows s.uart t.uart := by
  cases he with
  | txdata data => exact outputGrows_pushByte s _
  | read | write | plicConfig | claim | complete | uartConfig | vector | status | enables => exact .refl _

theorem uart_causeEffect {s t : State} (he : CauseEffect s t) : t.uart = s.uart := by
  cases he <;> rfl

theorem outputGrows_seqEffect {s t : State} (he : SeqEffect s t) : OutputGrows s.uart t.uart := by
  cases he with
  | foreground m rest i v u idle todo instr access =>
    have hgrows := outputGrows_accessEffect access
    exact hgrows
  | decode _ phase effect => rw [uart_causeEffect effect]; exact .refl _
  | readIp phase =>
    obtain ⟨ipq, bn, bi, ph, hs⟩ := afterReadIp_eq_setSeq (s.memRead .uartIp _)
    rw [hs]
    exact .refl _
  | push b phase more byte => exact outputGrows_pushByte s b
  | stays | stackPointer | claim | finish | rxCount | complete | ret => exact .refl _

/-- Settles O59. -/
theorem transmittedBytesKeepTheirOrder : Obligations.TransmittedBytesKeepTheirOrder := by
  intro s t e hreset hstep
  suffices OutputGrows s.uart t.uart from this
  cases agentStep_effect hstep with
  | seq _ running effect => exact outputGrows_seqEffect effect
  | send b rest txen queued => exact outputGrows_send queued
  | reset u => exact absurd rfl (hreset u)
  | stays | command | badLevel | latch | line | rxwm | nested | entry | corePc => exact .refl _

end Sys2Proof.Proofs
end

section
/-! What the decoder answers and what it rejects (R63, R65, R94, R95), said once for its three lookups. -/

namespace Sys2Proof

/-- The operand range of an array entry: a register that is no entry has none (R94). -/
def Register.inRange (r : Register) : Prop := ∀ k : BitVec 6, r = .priority k → 1 ≤ k.toNat ∧ k.toNat ≤ 52

/-- The registers of the fixed list are no array entries, so no range applies to them. -/
theorem Register.inRange_of_mem_fixed {r : Register} (h : r ∈ Register.fixed) : r.inRange := by
  rintro k rfl
  simp [Register.fixed] at h

/-- An index that an address selects is in range, and the address is that of the entry (R94). -/
theorem priorityIndex_eq_some {m : AddrMap} {a : Word} {k : BitVec 6} (h : m.priorityIndex a = some k) :
    (Register.priority k).inRange ∧ m.addr (.priority k) = a := by
  unfold AddrMap.priorityIndex at h
  dsimp only at h
  split at h
  next hoff =>
    obtain ⟨haligned, hlow, hhigh⟩ := hoff
    obtain rfl := Option.some.inj h
    have hk : (BitVec.ofNat 6 ((a - m.priority).toNat / 4)).toNat = (a - m.priority).toNat / 4 := by
      rw [BitVec.toNat_ofNat]
      exact Nat.mod_eq_of_lt (by omega)
    constructor
    · rintro _ ⟨rfl⟩
      rw [hk]
      exact ⟨hlow, hhigh⟩
    · have hentry : 4#32 * (BitVec.ofNat 6 ((a - m.priority).toNat / 4)).setWidth 32 = a - m.priority := by
        apply BitVec.eq_of_toNat_eq
        rw [BitVec.toNat_mul, BitVec.toNat_setWidth, hk, BitVec.toNat_ofNat]
        omega
      change m.priority + _ = a
      rw [hentry, BitVec.add_comm, BitVec.sub_add_cancel]
  next => cases h

/-- An address selects a register only where the map models one at that very address (R64, R65). -/
theorem decodeAddr_eq_some {m : AddrMap} {a : Word} {r : Register} (h : decodeAddr m a = some r) :
    a ∉ m.unmodelled ∧ r.inRange ∧ m.addr r = a := by
  unfold decodeAddr at h
  split at h
  next => cases h
  next hmodelled =>
    refine ⟨by simpa using hmodelled, ?_⟩
    split at h
    next q hfound =>
      obtain rfl := Option.some.inj h
      exact ⟨Register.inRange_of_mem_fixed (List.mem_of_find?_eq_some hfound),
        by simpa using List.find?_some hfound⟩
    next =>
      obtain ⟨k, hk, rfl⟩ := Option.map_eq_some_iff.1 h
      exact priorityIndex_eq_some hk

/-- An address that is marked "not modelled", or at which no register stands, selects none (R65). -/
theorem decodeAddr_eq_none {m : AddrMap} {a : Word}
    (h : a ∈ m.unmodelled ∨ ∀ r : Register, r.inRange → m.addr r ≠ a) : decodeAddr m a = none := by
  cases hdecode : decodeAddr m a with
  | none => rfl
  | some r =>
    obtain ⟨hmodelled, hrange, haddr⟩ := decodeAddr_eq_some hdecode
    rcases h with hmem | hno
    · exact absurd hmem hmodelled
    · exact absurd haddr (hno r hrange)

/-- A register-space access of another width is rejected (R63). -/
theorem decodeMmio_of_width (m : AddrMap) (dir : Dir) (a data : Word) {width : Nat} (h : width ≠ 4) :
    decodeMmio m dir a width data = .error .badWidth := if_pos h

/-- A word access off the word boundaries is rejected (R63). -/
theorem decodeMmio_of_misaligned (m : AddrMap) (dir : Dir) {a : Word} (data : Word) (h : a.toNat % 4 ≠ 0) :
    decodeMmio m dir a 4 data = .error .misaligned := by simp [decodeMmio, h]

/-- An aligned word access that selects no register is rejected (R65). -/
theorem decodeMmio_of_unmapped {m : AddrMap} (dir : Dir) {a : Word} (data : Word) (h : a.toNat % 4 = 0)
    (hnone : decodeAddr m a = none) : decodeMmio m dir a 4 data = .error .unmapped := by
  simp [decodeMmio, h, hnone]

/-- A number selects a control register only where it is the number of that register (R95). -/
theorem decodeCsrNum_eq_some {m : CsrMap} {n : BitVec 12} {c : Csr} (h : decodeCsrNum m n = some c) : m.num c = n := by
  simpa using List.find?_some h

/-- Distinct numbers are told apart: the number of a control register selects it (R95). -/
theorem decodeCsrNum_num {m : CsrMap} (hm : m.wf = true) (c : Csr) : decodeCsrNum m (m.num c) = some c := by
  have hdistinct : [m.cause, m.tvec, m.status, m.ie].Nodup := of_decide_eq_true hm
  simp only [List.nodup_cons, List.mem_cons, not_or] at hdistinct
  cases c <;> simp [decodeCsrNum, CsrMap.num, hdistinct]

/-- The table has no write of the cause register (R111). -/
theorem decodeCsr_write_cause {m : CsrMap} (hm : m.wf = true) (data : Word) :
    decodeCsr m .W m.cause data = .error .noCsrOperation := by
  simp [decodeCsr, show decodeCsrNum m m.cause = some .cause from decodeCsrNum_num hm .cause]

/-- The table has no read of the trap vector (R111). -/
theorem decodeCsr_read_tvec {m : CsrMap} (hm : m.wf = true) (data : Word) :
    decodeCsr m .R m.tvec data = .error .noCsrOperation := by
  simp [decodeCsr, show decodeCsrNum m m.tvec = some .tvec from decodeCsrNum_num hm .tvec]

/-- A number of no control register has no operation (R95). -/
theorem decodeCsr_of_unknown {m : CsrMap} (dir : Dir) {n : BitVec 12} (data : Word) (h : ∀ c : Csr, m.num c ≠ n) :
    decodeCsr m dir n data = .error .noCsrOperation := by
  have hnone : decodeCsrNum m n = none := Option.eq_none_iff_forall_ne_some.2 fun c hc => h c (decodeCsrNum_eq_some hc)
  simp [decodeCsr, hnone]

end Sys2Proof
end

section
/-! The statements of the memory family: the growth of the access trace, from the effects of the steps, and the accesses
that the decoder rejects. -/

namespace Sys2Proof.Proofs

open Sys2Proof.Machine

/-! ## The access trace -/

/-- One access is appended (R70). -/
def OneAccess (l l' : List Access) : Prop := ∃ a : Access, l' = l ++ [a]

/-- At most one access is appended, and what was recorded stays (R67, R70). -/
def TraceGrows (l l' : List Access) : Prop := l' = l ∨ OneAccess l l'

/-- A push records nothing itself: the write that carries the byte does (R233). -/
theorem pushByte_trace (s : State) (b : Byte) : (s.pushByte b).trace = s.trace := by
  obtain ⟨-, hs⟩ | ⟨-, hs⟩ := pushByte_cases s b <;> rw [hs]
  · exact State.setUart_trace ..
  · exact State.setSeq_trace ..

/-- The write of a byte to `UART0_TXDATA` is one access, whether the byte is queued or dropped (R233, R238). -/
theorem oneAccess_pushByte (s : State) (b : Byte) (w : Word) :
    OneAccess s.trace ((s.pushByte b).memWrite .txdata w).trace :=
  ⟨_, congrArg (· ++ _) (pushByte_trace s b)⟩

/-- A register access is one access. -/
theorem oneAccess_accessEffect {s t : State} {i : Instr} (he : AccessEffect s i t) : OneAccess s.trace t.trace := by
  cases he with
  | txdata data => exact oneAccess_pushByte s _ data
  | read | write | plicConfig | claim | complete | uartConfig | vector | status | enables => exact ⟨_, rfl⟩

/-- A cause row reads the cause register and accesses nothing else (R121). -/
theorem oneAccess_causeEffect {s t : State} (he : CauseEffect s t) : OneAccess s.trace t.trace := by
  cases he <;> exact ⟨_, rfl⟩

/-- A step of SEQ is one access, or the bookkeeping of a phase that has none. -/
theorem traceGrows_seqEffect {s t : State} (he : SeqEffect s t) : TraceGrows s.trace t.trace := by
  cases he with
  | stays | stackPointer | finish | rxCount | ret => exact .inl rfl
  | foreground m rest i v u idle todo instr access =>
    have hone := oneAccess_accessEffect access
    exact .inr hone
  | decode _ phase effect => exact .inr (oneAccess_causeEffect effect)
  | readIp phase =>
    obtain ⟨ipq, bn, bi, ph, hs⟩ := afterReadIp_eq_setSeq (s.memRead .uartIp _)
    rw [hs]
    exact .inr ⟨_, rfl⟩
  | push b phase more byte => exact .inr (oneAccess_pushByte s b _)
  | claim | complete => exact .inr ⟨_, rfl⟩

/-- Settles O58: only SEQ makes accesses, one at most a step, and no other agent but reset touches the trace. -/
theorem traceGrowsByOneAccess : Obligations.TraceGrowsByOneAccess := by
  intro s t e hreset hstep
  suffices TraceGrows s.trace t.trace from this
  cases agentStep_effect hstep with
  | seq _ running effect => exact traceGrows_seqEffect effect
  | reset u => exact absurd rfl (hreset u)
  | stays | command | badLevel | latch | send | line | rxwm | nested | entry | corePc => exact .inl rfl

/-! ## Rejected accesses -/

/-- Settles O48: one lemma on the decoder for each ground of rejection. -/
theorem unmappedAccessesAreRejected : Obligations.UnmappedAccessesAreRejected := by
  constructor
  · intro p dir addr data width
    exact ⟨decodeMmio_of_width p.map dir addr data, decodeMmio_of_misaligned p.map dir data, fun haligned hunmapped =>
      decodeMmio_of_unmapped dir data haligned (decodeAddr_eq_none hunmapped)⟩
  · rintro p dir n data hwf (⟨rfl, rfl⟩ | ⟨rfl, rfl⟩ | hunknown)
    · exact decodeCsr_write_cause hwf data
    · exact decodeCsr_read_tvec hwf data
    · exact decodeCsr_of_unknown dir data hunknown

end Sys2Proof.Proofs
end

section
/-! What the decoder answers for the transactions the encoder writes (R91, R94, R95): cause words, modelled addresses
and control-register numbers. -/

namespace Sys2Proof

open Sys2Proof.Machine

/-! ## Cause words -/

/-- TrapCause is the async flag and the code of a cause word; the bits between take no part (R91, R92). -/
theorem trapCauseOf_congr {p : Params} {w v : CauseWord} (hflag : w.testBit (p.xlen - 1) = v.testBit (p.xlen - 1))
    (hcode : w % 16 = v % 16) : trapCauseOf p w = trapCauseOf p v := by
  have hbits : BitVec.ofNat 4 w = BitVec.ofNat 4 v := BitVec.eq_of_toNat_eq (by simpa using hcode)
  simp only [trapCauseOf, hflag, hbits]

/-- The mask of R91 at XLEN = 32 keeps the code. -/
theorem and_causeMask_mod (w : Nat) : (w &&& 0x8000000F) % 16 = w % 16 :=
  calc
    (w &&& 0x8000000F) % 2 ^ 4 = w % 2 ^ 4 &&& 0x8000000F % 2 ^ 4 := Nat.and_mod_two_pow
    _ = w % 2 ^ 4 &&& 2 ^ 4 - 1 := rfl
    _ = w % 2 ^ 4 := by rw [Nat.and_two_pow_sub_one_eq_mod, Nat.mod_mod]

/-- The interrupt word of a code decodes to the row of that code (R93). -/
theorem decodeCause_interruptWord {p : Params} (h : p.xlenOk = true) (c : Fin 16) :
    decodeCause p (p.interruptWord c) = interruptRows[c] := by
  simp [decodeCause, trapCauseOf_interruptWord h c.isLt]

/-- The exception word of a code decodes to the row of that code (R93). -/
theorem decodeCause_exceptionWord {p : Params} (h : p.xlenOk = true) (c : Fin 16) :
    decodeCause p c.val = exceptionRows[c] := by
  simp [decodeCause, trapCauseOf_exceptionWord h c.isLt]

theorem encode_interruptRows (p : Params) : ∀ c : Fin 16, encode p interruptRows[c] = .cause (p.interruptWord c)
  | 0 | 1 | 2 | 3 | 4 | 5 | 6 | 7 | 8 | 9 | 10 | 11 | 12 | 13 | 14 | 15 => rfl
  | ⟨_ + 16, h⟩ => by omega

theorem encode_exceptionRows (p : Params) : ∀ c : Fin 16, encode p exceptionRows[c] = .cause c.val
  | 0 | 1 | 2 | 3 | 4 | 5 | 6 | 7 | 8 | 9 | 10 | 11 | 12 | 13 | 14 | 15 => rfl
  | ⟨_ + 16, h⟩ => by omega

theorem decode_encode_interruptRows {p : Params} (h : p.xlenOk = true) {i : Instr}
    (hi : ∃ c : Fin 16, interruptRows[c] = i) : decode p (encode p i) = .ok i := by
  obtain ⟨c, rfl⟩ := hi
  rw [encode_interruptRows]
  exact congrArg _ (decodeCause_interruptWord h c)

theorem decode_encode_exceptionRows {p : Params} (h : p.xlenOk = true) {i : Instr}
    (hi : ∃ c : Fin 16, exceptionRows[c] = i) : decode p (encode p i) = .ok i := by
  obtain ⟨c, rfl⟩ := hi
  rw [encode_exceptionRows]
  exact congrArg _ (decodeCause_exceptionWord h c)

/-! ## Register addresses -/

/-- Every register is one of the fixed list or an entry of the priority array. -/
theorem Register.mem_fixed_or_priority (r : Register) : r ∈ Register.fixed ∨ ∃ k : BitVec 6, r = .priority k := by
  cases r with
  | priority k => exact .inr ⟨k, rfl⟩
  | pending0 | pending1 | enable0 | enable1 | threshold | claim | txdata | txctrl | uartIe | uartIp =>
    exact .inl (by decide)

/-- The range of a priority operation is that of the array entry (R94). -/
theorem Register.inRange_priority {k : BitVec 6} (h : priorityIndexOk k = true) : (Register.priority k).inRange := by
  rintro _ ⟨rfl⟩
  exact of_decide_eq_true h

/-- What a usable map says of its addresses (OPEN parameters: "distinct, 4-byte aligned"). -/
structure AddrMap.Separates (m : AddrMap) : Prop where
  distinct : (Register.fixed.map m.addr).Nodup
  modelled : ∀ r ∈ Register.fixed, m.addr r ∉ m.unmodelled
  aligned : ∀ r ∈ Register.fixed, (m.addr r).toNat % 4 = 0
  fixed_outside_array : ∀ r ∈ Register.fixed, m.priorityIndex (m.addr r) = none
  unmodelled_outside_array : ∀ a ∈ m.unmodelled, m.priorityIndex a = none
  array_aligned : m.priority.toNat % 4 = 0

theorem AddrMap.separates_of_wf {m : AddrMap} (h : m.wf = true) : m.Separates := by
  simp only [AddrMap.wf, Bool.and_eq_true, decide_eq_true_eq, List.all_eq_true, beq_iff_eq,
    Option.isNone_iff_eq_none] at h
  obtain ⟨⟨⟨⟨-, hnodup⟩, hfixed⟩, hunmodelled⟩, harray⟩ := h
  obtain ⟨hdistinct, -, hdisjoint⟩ := List.nodup_append.1 hnodup
  exact
    { distinct := hdistinct
      modelled := fun r hr hmem => hdisjoint _ (List.mem_map_of_mem hr) _ hmem rfl
      aligned := fun r hr => (hfixed r hr).1
      fixed_outside_array := fun r hr => (hfixed r hr).2
      unmodelled_outside_array := fun a ha => (hunmodelled a ha).2
      array_aligned := harray }

/-- The offset of an array entry is four times its index: no wrap-around (R94). -/
theorem toNat_four_mul_index (k : BitVec 6) : (4#32 * k.setWidth 32).toNat = 4 * k.toNat := by
  have hk := k.isLt
  simp only [BitVec.toNat_mul, BitVec.toNat_setWidth, BitVec.toNat_ofNat]
  omega

/-- The address of an array entry selects its index (R94). -/
theorem priorityIndex_addr {m : AddrMap} {k : BitVec 6} (hk : (Register.priority k).inRange) :
    m.priorityIndex (m.addr (.priority k)) = some k := by
  obtain ⟨hlow, hhigh⟩ := hk k rfl
  have hoff : (m.addr (.priority k) - m.priority).toNat = 4 * k.toNat := by
    rw [AddrMap.addr, BitVec.add_comm, BitVec.add_sub_cancel, toNat_four_mul_index]
  simp [AddrMap.priorityIndex, hoff, Nat.one_le_iff_ne_zero.1 hlow, hhigh]

/-- A map that separates its addresses decodes the address of each register to that register (R64, R94). -/
theorem AddrMap.Separates.decodeAddr_addr {m : AddrMap} (h : m.Separates) {r : Register} (hr : r.inRange) :
    decodeAddr m (m.addr r) = some r := by
  obtain hfixed | ⟨k, rfl⟩ := r.mem_fixed_or_priority
  · have hfind : Register.fixed.find? (fun q => m.addr q == m.addr r) = some r := by
      cases hq : Register.fixed.find? (fun q => m.addr q == m.addr r) with
      | none => simpa using List.find?_eq_none.1 hq r hfixed
      | some q =>
        have haddr : m.addr q = m.addr r := by simpa using List.find?_some hq
        exact congrArg some (List.inj_on_of_nodup_map h.distinct (List.mem_of_find?_eq_some hq) hfixed haddr)
    simp [decodeAddr, h.modelled r hfixed, hfind]
  · have hindex := priorityIndex_addr (m := m) hr
    have hmodelled : m.addr (.priority k) ∉ m.unmodelled := fun hmem => by
      simp [h.unmodelled_outside_array _ hmem] at hindex
    have hfind : Register.fixed.find? (fun q => m.addr q == m.addr (.priority k)) = none :=
      List.find?_eq_none.2 fun q hq haddr => by
        have hnone := h.fixed_outside_array q hq
        rw [beq_iff_eq.1 haddr, hindex] at hnone
        cases hnone
    simp [decodeAddr, hmodelled, hfind, hindex]

/-- Every register stands at a word boundary (R63). -/
theorem AddrMap.Separates.addr_aligned {m : AddrMap} (h : m.Separates) (r : Register) : (m.addr r).toNat % 4 = 0 := by
  obtain hfixed | ⟨k, rfl⟩ := r.mem_fixed_or_priority
  · exact h.aligned r hfixed
  · have hbase := h.array_aligned
    rw [AddrMap.addr, BitVec.toNat_add, toNat_four_mul_index]
    omega

/-- A word read of a register decodes to the operation that reads it, whatever the data (R94). -/
theorem decodeMmio_read {m : AddrMap} (hm : m.wf = true) {r : Register} (hr : r.inRange) (data : Word) :
    decodeMmio m .R (m.addr r) 4 data = .ok r.readInstr := by
  have h := AddrMap.separates_of_wf hm
  simp [decodeMmio, h.addr_aligned r, h.decodeAddr_addr hr]

/-- A word write of a register decodes to the operation that writes it (R94). -/
theorem decodeMmio_write {m : AddrMap} (hm : m.wf = true) {r : Register} (hr : r.inRange) (data : Word) :
    decodeMmio m .W (m.addr r) 4 data = .ok (r.writeInstr data) := by
  have h := AddrMap.separates_of_wf hm
  simp [decodeMmio, h.addr_aligned r, h.decodeAddr_addr hr]

theorem encode_readInstr (p : Params) (r : Register) : encode p r.readInstr = readTx p r := by
  cases r <;> rfl

theorem encode_writeInstr (p : Params) (r : Register) (data : Word) :
    encode p (r.writeInstr data) = writeTx p r data := by
  cases r <;> rfl

theorem decode_encode_readInstr {p : Params} (hm : p.map.wf = true) {r : Register} (hr : r.inRange) :
    decode p (encode p r.readInstr) = .ok r.readInstr := by
  rw [encode_readInstr]
  exact decodeMmio_read hm hr 0#32

theorem decode_encode_writeInstr {p : Params} (hm : p.map.wf = true) {r : Register} (hr : r.inRange) (data : Word) :
    decode p (encode p (r.writeInstr data)) = .ok (r.writeInstr data) := by
  rw [encode_writeInstr]
  exact decodeMmio_write hm hr data

/-- A read of a register of the fixed list. -/
theorem decode_encode_of_mem_reads {p : Params} (hm : p.map.wf = true) {i : Instr}
    (hi : i ∈ Register.fixed.map Register.readInstr) : decode p (encode p i) = .ok i := by
  obtain ⟨r, hr, rfl⟩ := List.mem_map.1 hi
  exact decode_encode_readInstr hm (Register.inRange_of_mem_fixed hr)

/-- A write of a register of the fixed list. -/
theorem decode_encode_of_mem_writes {p : Params} (hm : p.map.wf = true) {i : Instr} (data : Word)
    (hi : i ∈ Register.fixed.map (Register.writeInstr data)) : decode p (encode p i) = .ok i := by
  obtain ⟨r, hr, rfl⟩ := List.mem_map.1 hi
  exact decode_encode_writeInstr hm (Register.inRange_of_mem_fixed hr) data

/-! ## Control registers -/

/-- The operation of a control register in a direction, where the table has a row (R95, R111). -/
def Csr.instr (dir : Dir) (data : Word) (c : Csr) : Except Reject Instr :=
  match dir, c with
  | .R, .cause => .ok .csrCauseR
  | .R, .status => .ok .csrStatusR
  | .R, .ie => .ok .csrIeR
  | .W, .tvec => .ok (.csrTvecW data)
  | .W, .status => .ok (.csrStatusW data)
  | .W, .ie => .ok (.csrIeW data)
  | .R, .tvec => .error .noCsrOperation
  | .W, .cause => .error .noCsrOperation

/-- With distinct numbers an access to the number of a control register is that register's operation (R95). -/
theorem decodeCsr_num {m : CsrMap} (hm : m.wf = true) (dir : Dir) (data : Word) (c : Csr) :
    decodeCsr m dir (m.num c) data = c.instr dir data := by
  unfold decodeCsr
  rw [decodeCsrNum_num hm]
  cases dir <;> cases c <;> rfl

/-! ## Every operation -/

/-- Decoding inverts encoding, format by format (R90, R111). -/
theorem decode_encode {p : Params} (hx : p.xlenOk = true) (hm : p.map.wf = true) (hc : p.csr.wf = true) {i : Instr}
    (hi : i.wf = true) : decode p (encode p i) = .ok i := by
  cases i with
  | intReserved0 | intReserved1 | intReserved2 | intSoftware | intReserved4 | intReserved5 | intReserved6 | intTimer
  | intReserved8 | intReserved9 | intReserved10 | intExternal | intReserved12 | intReserved13 | intReserved14
  | intReserved15 => exact decode_encode_interruptRows hx (by decide)
  | exc0 | exc1 | exc2 | exc3 | exc4 | exc5 | exc6 | exc7 | exc8 | exc9 | exc10 | exc11
  | excReserved12 | excReserved13 | excReserved14 | excReserved15 =>
    exact decode_encode_exceptionRows hx (by decide)
  | plicPriorityR k => exact decode_encode_readInstr hm (Register.inRange_priority hi)
  | plicPriorityW k data => exact decode_encode_writeInstr hm (Register.inRange_priority hi) data
  | plicPending0R | plicPending1R | plicEnable0R | plicEnable1R | plicThresholdR | plicClaimR | uart0TxdataR
  | uart0IpR | uart0IeR | uart0TxctrlR => exact decode_encode_of_mem_reads hm (by decide)
  | plicPending0W data | plicPending1W data | plicEnable0W data | plicEnable1W data | plicThresholdW data
  | plicCompleteW data | uart0TxdataW data | uart0IpW data | uart0IeW data | uart0TxctrlW data =>
    exact decode_encode_of_mem_writes hm data (by simp [Register.fixed, Register.writeInstr])
  | csrCauseR => exact decodeCsr_num hc .R 0#32 .cause
  | csrTvecW data => exact decodeCsr_num hc .W data .tvec
  | csrStatusR => exact decodeCsr_num hc .R 0#32 .status
  | csrStatusW data => exact decodeCsr_num hc .W data .status
  | csrIeR => exact decodeCsr_num hc .R 0#32 .ie
  | csrIeW data => exact decodeCsr_num hc .W data .ie

end Sys2Proof
end

section
/-! The foreground's commands with a source or a level operand (R109, R112, R189 to R193), one equation each, and the
one access that a command of a single operation makes. -/

namespace Sys2Proof.Machine

open Sys2Proof.Safety Sys2Proof.Claims

/-! ## The operands -/

/-- An operand that denotes a source resolves to it (R109). -/
theorem resolveSource_of_denotes {p : Params} {a : SourceArg} {src : Src} (h : Denotes p a src) :
    resolveSource p a = some src := by
  obtain rfl | ⟨x, rfl, rfl⟩ := h
  · exact srcOfId_id src
  · rfl

/-- A number outside 1..52 resolves to no source (R107(e)). -/
theorem resolveSource_number_of_out_of_range {p : Params} {n : Nat} (h : n = 0 ∨ 52 < n) :
    resolveSource p (.number n) = none := srcOfId_eq_none_iff.2 h

theorem withSource_of_some {s : State} {a : SourceArg} {src : Src} (f : Src → Host.Outcome State Fault Refusal)
    (h : resolveSource s.params a = some src) : withSource s a f = f src := by simp [withSource, h]

theorem withSource_of_none {s : State} {a : SourceArg} (f : Src → Host.Outcome State Fault Refusal)
    (h : resolveSource s.params a = none) : withSource s a f = .refused .badSource := by simp [withSource, h]

/-- The index of a source is its id: 52 fits six bits (R94). -/
theorem toNat_indexOfSrc (src : Src) : (indexOfSrc src).toNat = Src.id src := by
  have := id_bounds src
  rw [indexOfSrc, BitVec.toNat_ofNat]
  omega

theorem srcOfIndex_indexOfSrc (src : Src) : srcOfIndex (indexOfSrc src) = some src := by
  rw [srcOfIndex, toNat_indexOfSrc, srcOfId_id]

/-- The address of a source's priority register (R64: "base + 4*s"). -/
theorem addr_priority_indexOfSrc (m : AddrMap) (src : Src) :
    m.addr (.priority (indexOfSrc src)) = m.priority + 4#32 * BitVec.ofNat 32 (Src.id src) := by
  rw [AddrMap.addr, ← toNat_indexOfSrc, BitVec.ofNat_toNat]

/-- The level a register takes is the low three bits of the operand (R97, R99). -/
theorem levelOf_ofNat (n : Nat) : levelOf (BitVec.ofNat 32 n) = BitVec.ofNat 3 n := by
  apply BitVec.eq_of_toNat_eq
  simp only [levelOf, BitVec.extractLsb'_toNat, BitVec.toNat_ofNat, Nat.shiftRight_zero]
  omega

/-! ## The commands -/

section Commands

variable {s : State}

/-- A free foreground passes the guard of every command (R110). -/
theorem requestStep_guard_of_ready (h : Ready s) :
    (s.seq.halted || s.seq.phase != .idle || !s.fg.todo.isEmpty) = false := by
  obtain ⟨hrun, hidle, hfree⟩ := h
  simp [hrun, hidle, hfree]

theorem requestStep_disableSource_number (h : Ready s) (n : Nat) :
    requestStep (.disableSource (.number n)) s =
      withSource s (.number n) fun src =>
        .next (s.start [.op (rmwRead (enableReg src)), .writeAndNot (enableReg src) (srcMask src)]) := by
  simp only [requestStep, requestStep_guard_of_ready h, Bool.false_eq_true, if_false]

theorem requestStep_enableSource (h : Ready s) (a : SourceArg) :
    requestStep (.enableSource a) s =
      withSource s a fun src =>
        .next (s.start [.op (rmwRead (enableReg src)), .writeOr (enableReg src) (srcMask src)]) := by
  simp only [requestStep, requestStep_guard_of_ready h, Bool.false_eq_true, if_false]

theorem requestStep_setPriority (h : Ready s) (a : SourceArg) (level : Nat) :
    requestStep (.setPriority a level) s =
      withSource s a fun src =>
        if 7 < level then .next (s.raiseFatal (.invalidPriorityLevel level))
        else .next (s.start [.op (.plicPriorityW (indexOfSrc src) (BitVec.ofNat 32 level))]) := by
  simp only [requestStep, requestStep_guard_of_ready h, Bool.false_eq_true, if_false]

theorem requestStep_setThreshold (h : Ready s) (level : Nat) :
    requestStep (.setThreshold level) s =
      if 7 < level then .next (s.raiseFatal (.invalidThresholdLevel level))
      else .next (s.start [.op (.plicThresholdW (BitVec.ofNat 32 level))]) := by
  simp only [requestStep, requestStep_guard_of_ready h, Bool.false_eq_true, if_false]

/-! ## The access of a command -/

/-- A command of one operation is one step of SEQ: the operation, with its read latched (R67, R110). -/
theorem seqRun_one_op (h : Ready s) {i : Instr} {u : State} (hexec : exec i (s.start []) = .next u) :
    seqRun 1 (s.start [.op i]) = .next (latchRead i u) := by
  obtain ⟨hrun, hidle, -⟩ := h
  have hstep : foregroundStep (s.start [.op i]) = andThen (exec i (s.start [])) (latchRead i) := rfl
  simp [seqRun, seqStep, hrun, hidle, hstep, hexec, andThen]

/-- A write latches nothing (R110). -/
theorem latchRead_writeInstr (r : Register) (data : Word) (u : State) : latchRead (r.writeInstr data) u = u := by
  simp [latchRead, isRead, encode_writeInstr, writeTx]

/-- A command that is one register write: the write is issued, and the foreground is free again. -/
theorem seqRun_one_write (h : Ready s) {r : Register} {data : Word} {u : State}
    (hexec : exec (r.writeInstr data) (s.start []) = .next u) :
    seqRun 1 (s.start [.op (r.writeInstr data)]) = .next u := by
  rw [seqRun_one_op h hexec, latchRead_writeInstr]

theorem exec_plicPriorityW_indexOfSrc (hrun : s.seq.halted = false) (src : Src) (data : Word) :
    exec (.plicPriorityW (indexOfSrc src) data) s =
      .next ((s.setPlic { s.plic with prio := s.plic.prio.set src (levelOf data) }).memWrite
        (.priority (indexOfSrc src)) data) := by
  simp [exec, execPlicPriorityW, srcOfIndex_indexOfSrc, issue_of_running hrun]

theorem exec_plicThresholdW (hrun : s.seq.halted = false) (data : Word) :
    exec (.plicThresholdW data) s =
      .next ((s.setPlic { s.plic with thr := levelOf data }).memWrite .threshold data) := issue_of_running hrun

/-- `set_priority` of a level 0..7 is one write of the priority register of its source (R191). -/
theorem setPriority_of_level_le (h : Ready s) {a : SourceArg} {src : Src} (hsrc : Denotes s.params a src) {level : Nat}
    (hlevel : level ≤ 7) :
    ∃ c t, requestStep (.setPriority a level) s = .next c ∧ seqRun 1 c = .next t ∧
      t.plic = { s.plic with prio := s.plic.prio.set src (BitVec.ofNat 3 level) } ∧
      t.trace = s.trace ++
        [.write (s.params.map.priority + 4#32 * BitVec.ofNat 32 (Src.id src)) (BitVec.ofNat 32 level)] := by
  have ⟨hrun, _, _⟩ := h
  have hexec := exec_plicPriorityW_indexOfSrc (s := s.start []) hrun src (BitVec.ofNat 32 level)
  refine ⟨_, _, ?_, seqRun_one_write (r := .priority (indexOfSrc src)) h hexec, ?_, ?_⟩
  · rw [requestStep_setPriority h, withSource_of_some _ (resolveSource_of_denotes hsrc), if_neg (by omega)]
    rfl
  · simp [levelOf_ofNat]
  · simp [addr_priority_indexOfSrc]

/-- `set_threshold` of a level 0..7 is one write of the threshold register (R192). -/
theorem setThreshold_of_level_le (h : Ready s) {level : Nat} (hlevel : level ≤ 7) :
    ∃ c t, requestStep (.setThreshold level) s = .next c ∧ seqRun 1 c = .next t ∧
      t.plic = { s.plic with thr := BitVec.ofNat 3 level } ∧
      t.trace = s.trace ++ [.write s.params.map.threshold (BitVec.ofNat 32 level)] := by
  have ⟨hrun, _, _⟩ := h
  have hexec := exec_plicThresholdW (s := s.start []) hrun (BitVec.ofNat 32 level)
  refine ⟨_, _, ?_, seqRun_one_write (r := .threshold) h hexec, ?_, rfl⟩
  · rw [requestStep_setThreshold h, if_neg (by omega)]
    rfl
  · simp [levelOf_ofNat]

end Commands

end Sys2Proof.Machine
end

section
/-! The statements of the encoding family: the decoder against the encoder, the cause words, and the operands of the
commands. -/

namespace Sys2Proof.Proofs

open Sys2Proof.Machine Sys2Proof.Safety Sys2Proof.Claims

/-! ## The decoder -/

/-- Settles O50: `decode_encode`, by the format of the operation. -/
theorem decodeInvertsEncode : Obligations.DecodeInvertsEncode :=
  fun _ _ hxlen hmap hcsr hwf => decode_encode hxlen hmap hcsr hwf

/-- Settles O6: at XLEN = 32 the mask keeps the flag and the code, which are all that TrapCause looks at. -/
theorem causeUpperBitsAreIgnored : Obligations.CauseUpperBitsAreIgnored := by
  have hcongr : ∀ (p : Params) (w v : CauseWord), w.testBit (p.xlen - 1) = v.testBit (p.xlen - 1) →
      w % 16 = v % 16 → decode p (.cause w) = decode p (.cause v) := fun p w v hflag hcode =>
    congrArg Except.ok (decodeCause_congr (trapCauseOf_congr hflag hcode))
  refine ⟨fun p w hxlen => hcongr p w _ ?_ ?_, hcongr⟩
  · rw [hxlen, Nat.testBit_and, show Nat.testBit 0x8000000F (32 - 1) = true by decide, Bool.and_true]
  · exact (and_causeMask_mod w).symm

/-- Settles O49: the two cause words by evaluation, and each access because its literal address or number is that of its
register under the defaults (R6, R64). -/
theorem sampleWordsDecode : Obligations.SampleWordsDecode := by
  obtain ⟨hmap, hcsr, -⟩ := defaults_wf
  refine ⟨rfl, rfl, ?priorityWrite, ?claimRead, ?uartIpRead, ?vectorWrite⟩
  case priorityWrite => exact decodeMmio_write hmap (r := .priority 3#6) (Register.inRange_priority rfl) _
  case claimRead => exact decodeMmio_read hmap (r := .claim) (Register.inRange_of_mem_fixed (by decide)) 0#32
  case uartIpRead => exact decodeMmio_read hmap (r := .uartIp) (Register.inRange_of_mem_fixed (by decide)) 0#32
  case vectorWrite => exact decodeCsr_num hcsr .W _ .tvec

/-! ## The operands of the commands -/

/-- Settles O38: a level above 7 halts before any access. -/
theorem levelCommandsCheckTheirOperand : Obligations.LevelCommandsCheckTheirOperand := by
  intro s src arg level hready hsrc
  refine ⟨fun hlevel => ⟨setPriority_of_level_le hready hsrc hlevel, setThreshold_of_level_le hready hlevel⟩,
    fun hlevel => ⟨?_, ?_⟩⟩
  · rw [requestStep_setPriority hready, withSource_of_some _ (resolveSource_of_denotes hsrc), if_pos hlevel]
    rfl
  · rw [requestStep_setThreshold hready, if_pos hlevel]
    rfl

/-- Settles O39: none of these operands resolves to a source, and the level is not looked at. -/
theorem badSourceOperandsAreRefused : Obligations.BadSourceOperandsAreRefused := by
  intro s n level hready
  refine ⟨fun hn => ?_, ?_, ?_⟩
  · have hnone := resolveSource_number_of_out_of_range (p := s.params) hn
    exact ⟨(requestStep_disableSource_number hready n).trans (withSource_of_none _ hnone),
      (requestStep_enableSource hready _).trans (withSource_of_none _ hnone),
      (requestStep_setPriority hready _ level).trans (withSource_of_none _ hnone)⟩
  · exact (requestStep_enableSource hready .all).trans (withSource_of_none _ rfl)
  · exact (requestStep_setPriority hready .all level).trans (withSource_of_none _ rfl)

end Sys2Proof.Proofs
end

section
/-! The arbiter of the PLIC (R180) against what R180 calls the winner, and what a claim followed by the complete of the
id it returned does to the tables (R181, R182). -/

namespace Sys2Proof.Machine

open Sys2Proof.Claims

/-! ## The arbiter -/

/-- A candidate is pending, enabled and of priority at least 1 (R180). -/
theorem candidate_iff {p : PlicState} {c : Src} :
    p.candidate c = true ↔ p.ip[c] = true ∧ p.ie[c] = true ∧ 1 ≤ p.prio[c].toNat := by
  simp [PlicState.candidate, BitVec.lt_def, Nat.one_le_iff_ne_zero, Nat.pos_iff_ne_zero, and_assoc]

/-- The best candidate of a list of sources: none has a larger priority, and none of the same a smaller id (R180). -/
def IsBest (p : PlicState) (l : List Src) : Option Src → Prop
  | none => ∀ c ∈ l, p.candidate c = false
  | some w =>
    w ∈ l ∧ p.candidate w = true ∧
      ∀ c ∈ l, p.candidate c = true →
        p.prio[c].toNat < p.prio[w].toNat ∨ (p.prio[c].toNat = p.prio[w].toNat ∧ Src.id w ≤ Src.id c)

/-- A source that is no candidate leaves the best one as it is. -/
theorem IsBest.append_other {p : PlicState} {l : List Src} {best : Option Src} (h : IsBest p l best) {s : Src}
    (hs : p.candidate s = false) : IsBest p (l ++ [s]) best := by
  cases best with
  | none => exact List.forall_mem_append.2 ⟨h, List.forall_mem_singleton.2 hs⟩
  | some w =>
    obtain ⟨hmem, hcand, hmax⟩ := h
    exact ⟨List.mem_append_left _ hmem, hcand,
      List.forall_mem_append.2 ⟨hmax, List.forall_mem_singleton.2 fun hcc => absurd hcc (by simp [hs])⟩⟩

/-- One more source considered, with a larger id than all before it: the arbiter keeps the best (R180). -/
theorem IsBest.arbitrate {p : PlicState} {l : List Src} {best : Option Src} (h : IsBest p l best) {s : Src}
    (hlater : ∀ c ∈ l, Src.id c ≤ Src.id s) : IsBest p (l ++ [s]) (p.arbitrate best s) := by
  obtain ⟨hs, hr⟩ | ⟨hs, ⟨rfl, hr⟩ | ⟨b, rfl, hlt, hr⟩ | ⟨b, rfl, hle, hr⟩⟩ := arbitrate_cases p best s <;> rw [hr]
  case inl => exact h.append_other hs
  case inr.inl =>
    exact ⟨by simp, hs, List.forall_mem_append.2
      ⟨fun c hc hcc => absurd hcc (by simp [h c hc]), List.forall_mem_singleton.2 fun _ => .inr ⟨rfl, le_rfl⟩⟩⟩
  case inr.inr.inl =>
    obtain ⟨-, -, hmax⟩ := h
    refine ⟨by simp, hs, List.forall_mem_append.2
      ⟨fun c hc hcc => ?_, List.forall_mem_singleton.2 fun _ => .inr ⟨rfl, le_rfl⟩⟩⟩
    have := hmax c hc hcc
    rw [BitVec.lt_def] at hlt
    omega
  case inr.inr.inr =>
    obtain ⟨hmem, hcand, hmax⟩ := h
    refine ⟨List.mem_append_left _ hmem, hcand, List.forall_mem_append.2
      ⟨hmax, List.forall_mem_singleton.2 fun _ => ?_⟩⟩
    have := hlater b hmem
    rw [BitVec.lt_def] at hle
    omega

/-- The arbiter over a list of sources of rising ids finds the best of them. -/
theorem isBest_foldl (p : PlicState) {l : List Src} (hl : l.Pairwise (· < ·)) :
    IsBest p l (l.foldl p.arbitrate none) := by
  induction l using List.reverseRecOn with
  | nil => exact nofun
  | append_singleton l s ih =>
    obtain ⟨hsorted, -, hlast⟩ := List.pairwise_append.1 hl
    rw [List.foldl_concat]
    exact (ih hsorted).arbitrate fun c hc => Nat.succ_le_succ (hlast c hc s (by simp)).le

theorem isBest_winner (p : PlicState) : IsBest p (List.finRange 52) p.winner :=
  isBest_foldl p (List.pairwise_lt_finRange 52)

theorem isBest_some_iff {p : PlicState} {w : Src} : IsBest p (List.finRange 52) (some w) ↔ IsWinner p w := by
  simp [IsBest, IsWinner, candidate_iff]

theorem isBest_none_iff {p : PlicState} : IsBest p (List.finRange 52) none ↔ NoCandidate p := by
  simp only [IsBest, NoCandidate, ← candidate_iff, List.mem_finRange, forall_const, Bool.not_eq_true]

/-- R180 determines its winner: of two of the same priority each has the smaller id. -/
theorem isWinner_unique {p : PlicState} {w v : Src} (hw : IsWinner p w) (hv : IsWinner p v) : w = v := by
  obtain ⟨⟨hwip, hwie, hwprio⟩, hwmax⟩ := hw
  obtain ⟨⟨hvip, hvie, hvprio⟩, hvmax⟩ := hv
  have hwv := hwmax v hvip hvie hvprio
  have hvw := hvmax w hwip hwie hwprio
  exact id_inj (by omega)

/-- The arbiter finds a source exactly when it is the winner of R180. -/
theorem winner_eq_some_iff {p : PlicState} {w : Src} : p.winner = some w ↔ IsWinner p w := by
  have hbest := isBest_winner p
  constructor
  · intro h
    rw [h] at hbest
    exact isBest_some_iff.1 hbest
  · intro h
    cases hfound : p.winner with
    | none =>
      rw [hfound] at hbest
      exact absurd h.1 (isBest_none_iff.1 hbest w)
    | some v =>
      rw [hfound] at hbest
      rw [isWinner_unique (isBest_some_iff.1 hbest) h]

/-- The arbiter finds nothing exactly when there is no candidate (R180). -/
theorem winner_eq_none_iff {p : PlicState} : p.winner = none ↔ NoCandidate p := by
  have hbest := isBest_winner p
  constructor
  · intro h
    rw [h] at hbest
    exact isBest_none_iff.1 hbest
  · intro h
    cases hfound : p.winner with
    | none => rfl
    | some w => exact absurd (winner_eq_some_iff.1 hfound).1 (h w)

/-! ## The claimed id -/

theorem winnerId_of_some {p : PlicState} {w : Src} (h : p.winner = some w) : p.winnerId = Src.id w := by
  simp [PlicState.winnerId, h]

theorem winnerId_of_none {p : PlicState} (h : p.winner = none) : p.winnerId = 0 := by
  simp [PlicState.winnerId, h]

theorem winner_eq_some_iff_id {p : PlicState} {w : Src} : p.winner = some w ↔ Src.id w = p.winnerId := by
  cases h : p.winner with
  | none =>
    have := id_bounds w
    simp [winnerId_of_none h]
    omega
  | some v =>
    rw [winnerId_of_some h, Option.some.injEq]
    exact ⟨fun e => e ▸ rfl, fun e => (id_inj e).symm⟩

theorem claimWinner_of_some {p : PlicState} {w : Src} (h : p.winner = some w) :
    p.claimWinner = { p with ip := p.ip.set w false, insvc := p.insvc.set w true } := by
  simp [PlicState.claimWinner, h]

theorem claimWinner_of_none {p : PlicState} (h : p.winner = none) : p.claimWinner = p := by
  simp [PlicState.claimWinner, h]

theorem completeId_of_id (p : PlicState) {n : Nat} {src : Src} (h : n = Src.id src) :
    p.completeId n = { p with insvc := p.insvc.set src false } := by
  simp [PlicState.completeId, h]

/-- The tables after a claim and the complete of the id it returned: the winner neither pending nor in service
(R160). -/
def PlicState.serveWinner (p : PlicState) : PlicState := p.claimWinner.completeId p.winnerId

theorem serveWinner_insvc (p : PlicState) (src : Src) :
    p.serveWinner.insvc[src] = if Src.id src = p.winnerId then false else p.insvc[src] := by
  rw [PlicState.serveWinner, completeId_insvc, claimWinner_insvc]
  by_cases h : Src.id src = p.winnerId <;> simp [winner_eq_some_iff_id, h]

theorem serveWinner_ip (p : PlicState) (src : Src) :
    p.serveWinner.ip[src] = if Src.id src = p.winnerId then false else p.ip[src] := by
  obtain ⟨-, hip, -, -⟩ := completeId_rest p.claimWinner p.winnerId
  rw [PlicState.serveWinner, hip, claimWinner_ip]
  simp only [winner_eq_some_iff_id]

theorem serveWinner_rest (p : PlicState) :
    p.serveWinner.prio = p.prio ∧ p.serveWinner.ie = p.ie ∧ p.serveWinner.thr = p.thr := by
  obtain ⟨hprio, -, hie, hthr⟩ := completeId_rest p.claimWinner p.winnerId
  obtain ⟨hprio', hie', hthr'⟩ := claimWinner_rest p
  exact ⟨hprio.trans hprio', hie.trans hie', hthr.trans hthr'⟩

end Sys2Proof.Machine
end

section
/-! What a row of format CAUSE is made of (R91, R121), the steps of the handler, one equation per phase (R121, R154 to
R159, R244 to R246), the trap return (R304), and what the next event and the fetch leave to a step of SEQ. -/

namespace Sys2Proof.Machine

open Sys2Proof.Safety Sys2Proof.Claims

/-! ## Cause rows -/

/-- TrapCause of the match word of a row (R91, R92). -/
def matchCause (word : Word) : TrapCause := { isInterrupt := word.getLsbD 31, code := word.extractLsb' 0 4 }

/-- The row of a TrapCause (R93, R121). -/
def rowOf (tc : TrapCause) : Instr :=
  if tc.isInterrupt then interruptRows[tc.code.toNat] else exceptionRows[tc.code.toNat]

theorem decodeCause_eq_rowOf (p : Params) (w : CauseWord) : decodeCause p w = rowOf (trapCauseOf p w) := rfl

/-- A cause word that selects a row has the row's TrapCause. -/
theorem trapCauseOf_of_selects {p : Params} {word : Word} {w : CauseWord} (h : Selects p word w) :
    trapCauseOf p w = matchCause word := by
  obtain ⟨hflag, hcode⟩ := h
  have hbits : BitVec.ofNat 4 w = word.extractLsb' 0 4 := BitVec.eq_of_toNat_eq (by simpa using hcode)
  simp only [trapCauseOf, matchCause, hflag, hbits]

/-- At XLEN = 32 the words that the mask of R91 matches are those with the row's flag and code. -/
theorem selects_of_mask {p : Params} (hx : p.xlen = 32) {word : Word} {w : CauseWord}
    (h : w &&& 0x8000000F = word.toNat) : Selects p word w := by
  constructor
  · have hmask : Nat.testBit 0x8000000F 31 = true := by decide
    rw [hx, ← BitVec.testBit_toNat, ← h, Nat.testBit_and, hmask, Bool.and_true]
  · rw [← h, and_causeMask_mod]

/-- What the whole step DECODE does, from what the action of the row does after the common read (R121). -/
theorem causeRow_of_decodeStep {i : Instr} {word : Word} {act : State → State} {f : State → SeqState → SeqState}
    (hrow : rowOf (matchCause word) = i) (hexec : ∀ s, exec i s = decodeStep act s)
    (hact : ∀ s : State, act s.readCause =
      (s.csrRead .cause s.core.cause).setSeq (f s { s.seq with tc := trapCauseOf s.params s.core.cause })) :
    CauseRow i word f := by
  have hdecode : ∀ (p : Params) (w : CauseWord), Selects p word w → decode p (.cause w) = .ok i := fun p w hw =>
    congrArg Except.ok (by rw [decodeCause_eq_rowOf, trapCauseOf_of_selects hw, hrow])
  refine ⟨fun p w hx hw => hdecode p w (selects_of_mask hx hw), hdecode, fun s hrun hphase hsel => ?_⟩
  rw [hexec, decodeStep_next_iff.2 ⟨hrun, hphase, hact s⟩, trapCauseOf_of_selects hsel]
  rfl

/-- A fatal row halts with its reason (R311). -/
theorem causeRow_of_fatal {i : Instr} {word : Word} {r : FatalReason} (hrow : rowOf (matchCause word) = i)
    (hexec : ∀ s, exec i s = decodeStep (State.raiseFatal · r) s) : CauseRow i word (halting r) :=
  causeRow_of_decodeStep hrow hexec fun _ => rfl

/-- A recognised interrupt chooses its phase. -/
theorem causeRow_of_phase {i : Instr} {word : Word} {ph : Phase} (hrow : rowOf (matchCause word) = i)
    (hexec : ∀ s, exec i s = decodeStep (State.setPhase · ph) s) : CauseRow i word (toPhase ph) :=
  causeRow_of_decodeStep hrow hexec fun _ => rfl

/-- A defined exception does the SyncAction of its code. -/
theorem causeRow_of_syncAction {i : Instr} {word : Word} {c : Fin 12} (hrow : rowOf (matchCause word) = i)
    (hexec : ∀ s, exec i s = decodeStep (State.syncAction c) s) : CauseRow i word (syncing c) := by
  refine causeRow_of_decodeStep hrow hexec fun s => ?_
  obtain ⟨hc, hs⟩ | ⟨hc, hs⟩ := syncAction_cases c s.readCause <;> rw [hs, syncing]
  · rw [if_pos (by exact hc)]
    rfl
  · rw [if_neg (by exact hc ▸ nofun)]
    rfl

/-! ## The push of the refill -/

/-- The state after a push of the refill (R245). -/
def pushed (b : Byte) (s : State) : State := afterPush ((s.pushByte b).memWrite .txdata (b.setWidth 32))

@[simp] theorem pushed_params (b : Byte) (s : State) : (pushed b s).params = s.params := by
  simp [pushed, afterPush, pushByte_rest]

@[simp] theorem pushed_core (b : Byte) (s : State) : (pushed b s).core = s.core := by
  simp [pushed, afterPush, pushByte_rest]

@[simp] theorem pushed_plic (b : Byte) (s : State) : (pushed b s).plic = s.plic := by
  simp [pushed, afterPush, pushByte_rest]

@[simp] theorem pushed_engine (b : Byte) (s : State) : (pushed b s).engine = s.engine := by
  simp [pushed, afterPush, pushByte_rest]

@[simp] theorem pushed_inputs (b : Byte) (s : State) : (pushed b s).inputs = s.inputs := by
  simp [pushed, afterPush, pushByte_rest]

@[simp] theorem pushed_seq (b : Byte) (s : State) :
    (pushed b s).seq =
      { s.seq with
        bi := s.seq.bi + 1
        txOverrun := s.seq.txOverrun || !decide (s.uart.txfifo.length < s.params.txDepth) } := by
  simp [pushed, afterPush, pushByte_seq]

@[simp] theorem pushed_trace (b : Byte) (s : State) :
    (pushed b s).trace = s.trace ++ [.write s.params.map.txdata (b.setWidth 32)] := by
  simp [pushed, afterPush, Proofs.pushByte_trace, pushByte_rest, AddrMap.addr]

/-! ## The steps of the handler -/

section Handler

variable {s : State} (hrun : s.seq.halted = false)
include hrun

theorem seqStep_decode (hphase : s.seq.phase = .decode) :
    seqStep s = exec (decodeCause s.params s.core.cause) s := by
  simp [seqStep, hrun, hphase, decodePhaseStep, decode]

theorem seqStep_idle (hphase : s.seq.phase = .idle) : seqStep s = foregroundStep s := by
  simp [seqStep, hrun, hphase]

theorem seqStep_claim (hphase : s.seq.phase = .claim) :
    seqStep s =
      .next (afterClaim ((s.setPlic s.plic.claimWinner).memRead .claim (BitVec.ofNat 32 s.plic.winnerId))) := by
  simp [seqStep, hrun, hphase, exec, execPlicClaimR, issue_of_running, andThen]

theorem seqStep_readIp (hphase : s.seq.phase = .readIp) :
    seqStep s = .next (afterReadIp (s.memRead .uartIp (ipWord s))) := by
  simp [seqStep, hrun, hphase, exec, execUart0IpR, issue_of_running, andThen, ipWord, ipRxwm, ipTxwm]

theorem seqStep_push (hphase : s.seq.phase = .refill) (hmore : s.seq.bi < s.seq.bn) {b : Byte}
    (hb : s.params.msg[s.engine.cursor + s.seq.bi]? = some b) :
    seqStep s = .next (pushed b s) := by
  simp [pushed, seqStep, hrun, hphase, refillStep, hmore, hb, exec, execUart0TxdataW, issue_of_running, andThen,
    extractByte_setWidth]

theorem seqStep_finish (hphase : s.seq.phase = .refill) (hdone : ¬s.seq.bi < s.seq.bn) :
    seqStep s = .next (refillFinish s) := by
  simp [seqStep, hrun, hphase, refillStep, hdone]

theorem seqStep_rxcount (hphase : s.seq.phase = .rxcount) : seqStep s = .next (rxCountStep s) := by
  simp [seqStep, hrun, hphase]

theorem seqStep_complete (hphase : s.seq.phase = .complete) :
    seqStep s =
      .next
        (((s.setPlic (s.plic.completeId s.seq.claimedId.toNat)).memWrite .claim s.seq.claimedId).setPhase .ret) := by
  simp [seqStep, hrun, hphase, exec, execPlicCompleteW, issue_of_running, andThen]

theorem seqStep_ret (hphase : s.seq.phase = .ret) : seqStep s = .next s.trapReturn := by
  simp [seqStep, hrun, hphase]

end Handler

/-! ## What the reads of the handler decide -/

/-- The claim read returns the winner's id, and the phase is chosen by it (R154). -/
theorem afterClaim_winner (s : State) :
    afterClaim ((s.setPlic s.plic.claimWinner).memRead .claim (BitVec.ofNat 32 s.plic.winnerId)) =
      ((s.setPlic s.plic.claimWinner).memRead .claim (BitVec.ofNat 32 s.plic.winnerId)).setSeq
        { s.seq with
          claimedId := BitVec.ofNat 32 s.plic.winnerId
          phase :=
            if s.plic.winnerId = 0 then .ret
            else if s.plic.winnerId = Src.id s.params.src.uart0 then .readIp
            else .complete } := by
  simp only [afterClaim, State.memRead_rdata, toNat_winnerWord]
  rfl

/-- `UART0_IP` has the transmit condition in bit 0 (R102, R235). -/
theorem ipWord_testBit_zero (s : State) :
    (ipWord s).toNat.testBit 0 = decide (s.uart.txfifo.length < s.uart.txcnt.toNat) := by
  unfold ipWord
  cases s.inputs.rxwm <;> cases decide (s.uart.txfifo.length < s.uart.txcnt.toNat) <;> rfl

/-- `UART0_IP` has the receive condition in bit 1 (R102, R235). -/
theorem ipWord_testBit_one (s : State) : (ipWord s).toNat.testBit 1 = s.inputs.rxwm := by
  unfold ipWord
  cases s.inputs.rxwm <;> cases decide (s.uart.txfifo.length < s.uart.txcnt.toNat) <;> rfl

/-- After the read of `UART0_IP` the transmit side comes before the receive side (R155). -/
theorem afterReadIp_ipWord (s : State) :
    afterReadIp (s.memRead .uartIp (ipWord s)) =
      (s.memRead .uartIp (ipWord s)).setSeq
        (if s.uart.txfifo.length < s.uart.txcnt.toNat then
          { s.seq with ipq := ipWord s, bn := burstLength s.params s.engine.cursor, bi := 0, phase := .refill }
        else if s.inputs.rxwm = true then { s.seq with ipq := ipWord s, phase := .rxcount }
        else { s.seq with ipq := ipWord s, phase := .complete }) := by
  simp only [afterReadIp, State.memRead_rdata, ipWord_testBit_zero, ipWord_testBit_one, decide_eq_true_eq,
    BitVec.ofNat_toNat, BitVec.setWidth_eq]
  split_ifs <;> rfl

/-! ## The trap return -/

/-- Setting a bit leaves every other bit, the positions above the word among them. -/
theorem withBit_getLsbD_of_ne (w : Word) {i j : Nat} (b : Bool) (h : j ≠ i) :
    (withBit w i b).getLsbD j = w.getLsbD j := by
  by_cases hj : j < 32
  · rw [withBit_getLsbD w i b j hj, if_neg h]
  · rw [BitVec.getLsbD_of_ge _ j (by omega), BitVec.getLsbD_of_ge _ j (by omega)]

/-- The return restores MIE from MPIE (R304). -/
theorem trapReturn_mie (s : State) : s.trapReturn.core.mie = s.core.mpie := by
  rw [CoreState.mie, State.trapReturn_core, withBit_getLsbD_of_ne _ _ (by omega), withBit_getLsbD _ _ _ _ (by omega),
    if_pos rfl]

/-- The return sets MPIE (R304). -/
theorem trapReturn_mpie (s : State) : s.trapReturn.core.mpie = true := by
  rw [CoreState.mpie, State.trapReturn_core, withBit_getLsbD _ _ _ _ (by omega), if_pos rfl]

/-- The return leaves every other status bit (R304). -/
theorem trapReturn_status_of_ne (s : State) {b : Nat} (hmie : b ≠ 3) (hmpie : b ≠ 7) :
    s.trapReturn.core.status.getLsbD b = s.core.status.getLsbD b := by
  rw [State.trapReturn_core, withBit_getLsbD_of_ne _ _ hmpie, withBit_getLsbD_of_ne _ _ hmie]

/-! ## The next event -/

/-- Taking an event touches the script and the count of free values, and neither the sequencer nor what it fetches. -/
theorem takeEvent_rest (s : State) :
    (takeEvent s).params = s.params ∧ (takeEvent s).seq = s.seq ∧ (takeEvent s).core = s.core ∧
      (takeEvent s).fg = s.fg := by
  obtain ⟨rest, hs⟩ | hs := takeEvent_cases s <;> rw [hs] <;> exact ⟨rfl, rfl, rfl, rfl⟩

theorem step_of_seq {s : State} (h : nextEvent s = .seq) : step s = seqStep (takeEvent s) := by
  rw [step, h, agentStep]

/-- A micro-operation that names an operation is that operation, then the latch of its read (R110). -/
theorem foregroundStep_of_instr {s : State} {m : Micro} {rest : List Micro} {i : Instr} (htodo : s.fg.todo = m :: rest)
    (hm : microInstr s m = some (.ok i)) : foregroundStep s = andThen (exec i (s.start rest)) (latchRead i) := by
  simp [foregroundStep, htodo, hm]

/-- A raw transaction that the decoder rejects is refused by that name (R63, R65). -/
theorem foregroundStep_of_error {s : State} {m : Micro} {rest : List Micro} {e : Reject} (htodo : s.fg.todo = m :: rest)
    (hm : microInstr s m = some (.error e)) : foregroundStep s = .refused (Refusal.ofReject e) := by
  simp [foregroundStep, htodo, hm]

/-- SEQ fetches the cause word in phase DECODE, and the raw transaction at the head of the queue in phase IDLE. -/
theorem fetch_eq_some_iff {s : State} {x : Tx} :
    fetch s = some x ↔
      (s.seq.phase = .decode ∧ x = .cause s.core.cause) ∨
        (s.seq.phase = .idle ∧ ∃ rest, s.fg.todo = .raw x :: rest) := by
  unfold fetch
  split
  next hphase => simp [hphase, @eq_comm _ x]
  next t rest hphase htodo => simp [hphase, htodo]
  next hdecode hidle =>
    simp only [reduceCtorEq, false_iff, not_or, not_and, not_exists]
    exact ⟨fun hphase => absurd hphase hdecode, fun hphase rest htodo => hidle x rest hphase htodo⟩

end Sys2Proof.Machine
end

section
/-! Runs of SEQ through the handler: the refill, the device work between claim and complete, the dispatch of an external
interrupt (R160 to R162), and the steps left of a dispatch (R163). -/

namespace Sys2Proof.Safety

open Sys2Proof.Machine Sys2Proof.Claims

/-! ## Runs -/

theorem seqRun_succ {s t : State} (h : seqStep s = .next t) (k : Nat) : seqRun (k + 1) s = seqRun k t := by
  simp [seqRun, h]

/-- A run goes on from where a run has come to. -/
theorem seqRun_add {m : Nat} {s t : State} (h : seqRun m s = .next t) (n : Nat) : seqRun (m + n) s = seqRun n t := by
  induction m generalizing s with
  | zero =>
    cases h
    rw [Nat.zero_add]
  | succ m ih =>
    cases hs : seqStep s with
    | next u =>
      rw [Nat.succ_add, seqRun_succ hs]
      exact ih (by rw [← seqRun_succ hs, h])
    | fault | refused => simp [seqRun, hs] at h

/-! ## Device work -/

/-- What the work of the handler between the claim and the complete leaves, and the accesses it makes. -/
structure DeviceWork (s : State) (accesses : List Access) (t : State) : Prop where
  params : t.params = s.params
  core : t.core = s.core
  plic : t.plic = s.plic
  inputs : t.inputs = s.inputs
  halted : t.seq.halted = s.seq.halted
  claimedId : t.seq.claimedId = s.seq.claimedId
  trace : t.trace = s.trace ++ accesses

theorem DeviceWork.trans {s t u : State} {l m : List Access} (h : DeviceWork s l t) (g : DeviceWork t m u) :
    DeviceWork s (l ++ m) u where
  params := g.params.trans h.params
  core := g.core.trans h.core
  plic := g.plic.trans h.plic
  inputs := g.inputs.trans h.inputs
  halted := g.halted.trans h.halted
  claimedId := g.claimedId.trans h.claimedId
  trace := by rw [g.trace, h.trace, List.append_assoc]

/-- The write of a byte of the refill (R245). -/
def txWrite (p : Params) (b : Byte) : Access := .write p.map.txdata (b.setWidth 32)

/-- The bytes a refill has still to push (R245). -/
def refillBytes (s : State) : List Byte := (s.params.msg.drop (s.engine.cursor + s.seq.bi)).take (s.seq.bn - s.seq.bi)

theorem deviceWork_pushed (s : State) (b : Byte) : DeviceWork s [txWrite s.params b] (pushed b s) := by
  constructor <;> simp [txWrite]

/-- A burst that ends inside the message has a byte for each of its pushes (R74, R244). -/
theorem exists_byte {s : State} (hfit : s.engine.cursor + s.seq.bn ≤ s.params.msg.length)
    (hmore : s.seq.bi < s.seq.bn) : ∃ b, s.params.msg[s.engine.cursor + s.seq.bi]? = some b :=
  ⟨_, List.getElem?_eq_getElem (by omega)⟩

theorem refillBytes_of_more {s : State} (hmore : s.seq.bi < s.seq.bn) {b : Byte}
    (hb : s.params.msg[s.engine.cursor + s.seq.bi]? = some b) : refillBytes s = b :: refillBytes (pushed b s) := by
  obtain ⟨hlt, rfl⟩ := List.getElem?_eq_some_iff.1 hb
  have hleft : s.seq.bn - s.seq.bi = s.seq.bn - (s.seq.bi + 1) + 1 := by omega
  simp only [refillBytes, pushed_params, pushed_engine, pushed_seq]
  rw [List.drop_eq_getElem_cons hlt, hleft, List.take_succ_cons, Nat.add_assoc]

/-- A refill writes the bytes of its burst, with or without room in the FIFO, and moves the cursor (R245, R246). -/
theorem refill_run {s : State} (hrun : s.seq.halted = false) (hphase : s.seq.phase = .refill)
    (hfit : s.engine.cursor + s.seq.bn ≤ s.params.msg.length) :
    ∃ t, seqRun (s.seq.bn - s.seq.bi + 1) s = .next t ∧ DeviceWork s ((refillBytes s).map (txWrite s.params)) t ∧
      t.seq.phase = .complete ∧
      t.engine = { s.engine with cursor := cursorNext s.params s.engine.cursor } := by
  obtain ⟨n, hn⟩ : ∃ n, s.seq.bn - s.seq.bi = n := ⟨_, rfl⟩
  induction n generalizing s with
  | zero =>
    have hdone : ¬s.seq.bi < s.seq.bn := by omega
    refine ⟨refillFinish s, ?_, ?_, rfl, rfl⟩
    · rw [hn, seqRun_succ (seqStep_finish hrun hphase hdone)]
      rfl
    · have hbytes : refillBytes s = [] := by simp [refillBytes, hn]
      rw [hbytes]
      exact ⟨rfl, rfl, rfl, rfl, rfl, rfl, (List.append_nil _).symm⟩
  | succ n ih =>
    have hmore : s.seq.bi < s.seq.bn := by omega
    obtain ⟨b, hb⟩ := exists_byte hfit hmore
    have hleft : (pushed b s).seq.bn - (pushed b s).seq.bi = n := by
      rw [pushed_seq]
      dsimp only
      omega
    obtain ⟨t, ht, hwork, hcomplete, hcursor⟩ :=
      ih (s := pushed b s) (by simpa using hrun) (by simpa using hphase) (by simpa using hfit) hleft
    rw [pushed_params] at hwork hcursor
    rw [pushed_engine] at hcursor
    refine ⟨t, ?_, ?_, hcomplete, hcursor⟩
    · rw [hn, seqRun_succ (seqStep_push hrun hphase hmore hb), ← ht, hleft]
    · rw [refillBytes_of_more hmore hb]
      exact (deviceWork_pushed s b).trans hwork

/-- The accesses of the service of UART0: its pending read, and on the transmit side the bytes of the burst (R160). -/
def uartAccesses (s : State) : List Access :=
  .read s.params.map.uartIp (ipWord s) ::
    (if s.uart.txfifo.length < s.uart.txcnt.toNat then (burstBytes s).map (txWrite s.params) else [])

/-- The refill engine after the service of UART0 (R157, R246). -/
def servedEngine (s : State) : EngineState :=
  if s.uart.txfifo.length < s.uart.txcnt.toNat then
    { s.engine with cursor := cursorNext s.params s.engine.cursor }
  else if s.inputs.rxwm = true then { s.engine with rxCount := (s.engine.rxCount + 1) % 2 ^ s.params.rxBits }
  else s.engine

theorem servedEngine_of_transmit {s : State} (htx : s.uart.txfifo.length < s.uart.txcnt.toNat) :
    servedEngine s = { s.engine with cursor := cursorNext s.params s.engine.cursor } := by
  rw [servedEngine, if_pos htx]

/-- Only a refill moves the cursor (R45). -/
theorem servedEngine_cursor_of_not_transmit {s : State} (htx : ¬s.uart.txfifo.length < s.uart.txcnt.toNat) :
    (servedEngine s).cursor = s.engine.cursor := by
  rw [servedEngine, if_neg htx]
  split_ifs <;> rfl

/-- The receive side is counted only without transmit work (R155, R157). -/
theorem servedEngine_rxCount (s : State) :
    (servedEngine s).rxCount =
      if ¬s.uart.txfifo.length < s.uart.txcnt.toNat ∧ s.inputs.rxwm = true then
        (s.engine.rxCount + 1) % 2 ^ s.params.rxBits
      else s.engine.rxCount := by
  unfold servedEngine
  by_cases htx : s.uart.txfifo.length < s.uart.txcnt.toNat
  · simp [htx]
  · by_cases hrx : s.inputs.rxwm = true <;> simp [htx, hrx]

/-- The state after the pending read, with its word latched and the phase it chooses (R155). -/
def ipRead (bn bi : Nat) (ph : Phase) (s : State) : State :=
  (s.memRead .uartIp (ipWord s)).setSeq { s.seq with ipq := ipWord s, bn := bn, bi := bi, phase := ph }

theorem deviceWork_ipRead (bn bi : Nat) (ph : Phase) (s : State) :
    DeviceWork s [.read s.params.map.uartIp (ipWord s)] (ipRead bn bi ph s) :=
  ⟨rfl, rfl, rfl, rfl, rfl, rfl, rfl⟩

theorem deviceWork_rxCountStep (s : State) : DeviceWork s [] (rxCountStep s) :=
  ⟨rfl, rfl, rfl, rfl, rfl, rfl, (List.append_nil _).symm⟩

/-- What the service of UART0 has done once it comes to phase COMPLETE. -/
structure UartServed (s t : State) : Prop where
  work : DeviceWork s (uartAccesses s) t
  phase : t.seq.phase = .complete
  engine : t.engine = servedEngine s
  uart : ¬s.uart.txfifo.length < s.uart.txcnt.toNat → t.uart = s.uart

section Uart

variable {s : State} (hrun : s.seq.halted = false) (hphase : s.seq.phase = .readIp)
include hrun hphase

/-- The transmit side: the pending read, then a refill from the cursor on (R155, R247). -/
theorem uart_run_transmit (hcursor : s.engine.cursor ≤ s.params.msg.length)
    (htx : s.uart.txfifo.length < s.uart.txcnt.toNat) :
    ∃ k t, k ≤ 2 + s.params.burst ∧ seqRun k s = .next t ∧ UartServed s t := by
  have hread : seqStep s = .next (ipRead (burstLength s.params s.engine.cursor) 0 .refill s) := by
    rw [seqStep_readIp hrun hphase, afterReadIp_ipWord, if_pos htx, ipRead]
  have hlength : burstLength s.params s.engine.cursor ≤ s.params.burst ∧
      s.engine.cursor + burstLength s.params s.engine.cursor ≤ s.params.msg.length := by
    unfold burstLength
    omega
  obtain ⟨hburst, hfit⟩ := hlength
  obtain ⟨t, ht, hwork, hcomplete, hengine⟩ :=
    refill_run (s := ipRead (burstLength s.params s.engine.cursor) 0 .refill s) hrun rfl hfit
  refine ⟨burstLength s.params s.engine.cursor + 2, t, by omega, (seqRun_succ hread _).trans ht, ?_, hcomplete, ?_,
    fun h => absurd htx h⟩
  · rw [uartAccesses, if_pos htx]
    exact (deviceWork_ipRead ..).trans hwork
  · rw [hengine, servedEngine_of_transmit htx]
    rfl

/-- The receive side: the pending read, then the count (R155, R157). -/
theorem uart_run_receive (htx : ¬s.uart.txfifo.length < s.uart.txcnt.toNat) (hrx : s.inputs.rxwm = true) :
    ∃ t, seqRun 2 s = .next t ∧ UartServed s t := by
  have hread : seqStep s = .next (ipRead s.seq.bn s.seq.bi .rxcount s) := by
    rw [seqStep_readIp hrun hphase, afterReadIp_ipWord, if_neg htx, if_pos hrx, ipRead]
  have hcount := seqStep_rxcount (s := ipRead s.seq.bn s.seq.bi .rxcount s) hrun rfl
  refine ⟨_, (seqRun_succ hread 1).trans (seqRun_succ hcount 0), ?_, rfl, ?_, fun _ => rfl⟩
  · rw [uartAccesses, if_neg htx]
    exact (deviceWork_ipRead ..).trans (deviceWork_rxCountStep _)
  · rw [servedEngine, if_neg htx, if_pos hrx]
    rfl

/-- Neither side: the pending read alone (R155). -/
theorem uart_run_neither (htx : ¬s.uart.txfifo.length < s.uart.txcnt.toNat) (hrx : ¬s.inputs.rxwm = true) :
    ∃ t, seqRun 1 s = .next t ∧ UartServed s t := by
  have hread : seqStep s = .next (ipRead s.seq.bn s.seq.bi .complete s) := by
    rw [seqStep_readIp hrun hphase, afterReadIp_ipWord, if_neg htx, if_neg hrx, ipRead]
  refine ⟨_, seqRun_succ hread 0, ?_, rfl, ?_, fun _ => rfl⟩
  · rw [uartAccesses, if_neg htx]
    exact deviceWork_ipRead ..
  · rw [servedEngine, if_neg htx, if_neg hrx]
    rfl

/-- The service of UART0 from its pending read to phase COMPLETE, transmit before receive (R155). -/
theorem uart_run (hcursor : s.engine.cursor ≤ s.params.msg.length) :
    ∃ k t, k ≤ 2 + s.params.burst ∧ seqRun k s = .next t ∧ UartServed s t := by
  by_cases htx : s.uart.txfifo.length < s.uart.txcnt.toNat
  · exact uart_run_transmit hrun hphase hcursor htx
  · by_cases hrx : s.inputs.rxwm = true
    · obtain ⟨t, ht, hserved⟩ := uart_run_receive hrun hphase htx hrx
      exact ⟨2, t, by omega, ht, hserved⟩
    · obtain ⟨t, ht, hserved⟩ := uart_run_neither hrun hphase htx hrx
      exact ⟨1, t, by omega, ht, hserved⟩

end Uart

/-! ## The dispatch of an external interrupt -/

/-- What the dispatch has done between the claim and the return: the big-step reading of R160 to R162. -/
structure Dispatched (s t : State) : Prop where
  phase : t.seq.phase = .ret
  running : t.seq.halted = false
  trace : t.trace = s.trace ++ serviceTrace s
  plic : t.plic = s.plic.serveWinner
  core : t.core = s.core
  inputs : t.inputs = s.inputs
  engine : t.engine = if s.plic.winnerId = Src.id s.params.src.uart0 then servedEngine s else s.engine
  uart : ¬servesTx s → t.uart = s.uart

/-- The state after the claim read, with the id latched and the phase it chooses (R154). -/
def claimed (ph : Phase) (s : State) : State :=
  ((s.setPlic s.plic.claimWinner).memRead .claim (BitVec.ofNat 32 s.plic.winnerId)).setSeq
    { s.seq with claimedId := BitVec.ofNat 32 s.plic.winnerId, phase := ph }

/-- Step COMPLETE ends the work on the id claimed: the service is that of R160. -/
theorem complete_run {s t : State} {ph : Phase} {accesses : List Access} (hrun : s.seq.halted = false)
    (hwork : DeviceWork (claimed ph s) accesses t) (hphase : t.seq.phase = .complete)
    (htrace : serviceTrace s =
      .read s.params.map.claim (BitVec.ofNat 32 s.plic.winnerId) ::
        (accesses ++ [.write s.params.map.claim (BitVec.ofNat 32 s.plic.winnerId)]))
    (hengine : t.engine = if s.plic.winnerId = Src.id s.params.src.uart0 then servedEngine s else s.engine)
    (huart : ¬servesTx s → t.uart = s.uart) : ∃ u, seqRun 1 t = .next u ∧ Dispatched s u := by
  have hhalted : t.seq.halted = false := hwork.halted.trans hrun
  have hid : t.seq.claimedId = BitVec.ofNat 32 s.plic.winnerId := hwork.claimedId
  refine ⟨_, seqRun_succ (seqStep_complete hhalted hphase) 0, rfl, hhalted, ?_, ?_, hwork.core, hwork.inputs, hengine,
    huart⟩
  · simp only [State.setPhase_trace, State.memWrite_trace, State.setPlic_trace, State.setPlic_params]
    rw [hwork.trace, hwork.params, hid, htrace]
    simp [claimed, AddrMap.addr]
  · simp only [State.setPhase_plic, State.memWrite_plic, State.setPlic_plic]
    rw [hwork.plic, hid, toNat_winnerWord]
    rfl

/-- The state after step DECODE of an external interrupt (R121, R133). -/
def toClaim (s : State) : State := s.readCause.setPhase .claim

section Dispatch

variable {s : State} (hrun : s.seq.halted = false)
include hrun

/-- No source: the claim read is the only access, and 0 is not completed (R154). -/
theorem claim_run_none (hphase : s.seq.phase = .claim) (hnone : s.plic.winnerId = 0) :
    ∃ t, seqRun 1 s = .next t ∧ Dispatched s t := by
  have hclaim : seqStep s = .next (claimed .ret s) := by
    rw [seqStep_claim hrun hphase, afterClaim_winner, if_pos hnone, claimed]
  refine ⟨_, seqRun_succ hclaim 0, rfl, hrun, ?_, ?_, rfl, rfl, ?_, fun _ => rfl⟩
  · rw [serviceTrace, if_pos hnone]
    rfl
  · rw [PlicState.serveWinner, hnone]
    rfl
  · have hid : s.plic.winnerId ≠ Src.id s.params.src.uart0 := by
      have := id_bounds s.params.src.uart0
      omega
    rw [if_neg hid]
    rfl

/-- UART0: its service lies between claim and complete (R154). -/
theorem claim_run_uart (hphase : s.seq.phase = .claim) (hcursor : s.engine.cursor ≤ s.params.msg.length)
    (huart0 : s.plic.winnerId = Src.id s.params.src.uart0) :
    ∃ k t, k ≤ 4 + s.params.burst ∧ seqRun k s = .next t ∧ Dispatched s t := by
  have hsome : s.plic.winnerId ≠ 0 := by
    have := id_bounds s.params.src.uart0
    omega
  have hclaim : seqStep s = .next (claimed .readIp s) := by
    rw [seqStep_claim hrun hphase, afterClaim_winner, if_neg hsome, if_pos huart0, claimed]
  obtain ⟨k, t, hk, ht, hserved⟩ := uart_run (s := claimed .readIp s) hrun rfl hcursor
  obtain ⟨u, hu, hdispatched⟩ := complete_run hrun hserved.work hserved.phase
    (by rw [serviceTrace, if_neg hsome, if_pos huart0]; rfl)
    (by rw [hserved.engine, if_pos huart0]; rfl)
    (fun hno => hserved.uart fun htx => hno ⟨huart0, htx⟩)
  have hk' : k ≤ 2 + s.params.burst := hk
  refine ⟨k + 1 + 1, u, by omega, ?_, hdispatched⟩
  rw [seqRun_succ hclaim, seqRun_add ht, hu]

/-- Another source: it is completed at once (R154). -/
theorem claim_run_other (hphase : s.seq.phase = .claim) (hsome : s.plic.winnerId ≠ 0)
    (hother : s.plic.winnerId ≠ Src.id s.params.src.uart0) : ∃ t, seqRun 2 s = .next t ∧ Dispatched s t := by
  have hclaim : seqStep s = .next (claimed .complete s) := by
    rw [seqStep_claim hrun hphase, afterClaim_winner, if_neg hsome, if_neg hother, claimed]
  have hwork : DeviceWork (claimed .complete s) [] (claimed .complete s) :=
    ⟨rfl, rfl, rfl, rfl, rfl, rfl, (List.append_nil _).symm⟩
  obtain ⟨u, hu, hdispatched⟩ := complete_run hrun hwork rfl
    (by rw [serviceTrace, if_neg hsome, if_neg hother])
    (by rw [if_neg hother]; rfl)
    (fun _ => rfl)
  exact ⟨u, (seqRun_succ hclaim 1).trans hu, hdispatched⟩

/-- The dispatch from phase CLAIM to phase RETURN, by the id claimed (R154). -/
theorem claim_run (hphase : s.seq.phase = .claim) (hcursor : s.engine.cursor ≤ s.params.msg.length) :
    ∃ k t, k ≤ 4 + s.params.burst ∧ seqRun k s = .next t ∧ Dispatched s t := by
  by_cases hnone : s.plic.winnerId = 0
  · obtain ⟨t, ht, hdispatched⟩ := claim_run_none hrun hphase hnone
    exact ⟨1, t, by omega, ht, hdispatched⟩
  · by_cases huart0 : s.plic.winnerId = Src.id s.params.src.uart0
    · exact claim_run_uart hrun hphase hcursor huart0
    · obtain ⟨t, ht, hdispatched⟩ := claim_run_other hrun hphase hnone huart0
      exact ⟨2, t, by omega, ht, hdispatched⟩

/-- An external interrupt from phase DECODE to the foreground: the cause read, the dispatch, the return (R160). -/
theorem external_run (hphase : s.seq.phase = .decode) (hdecode : decodeCause s.params s.core.cause = .intExternal)
    (hcursor : s.engine.cursor ≤ s.params.msg.length) :
    ∃ k t, k ≤ 6 + s.params.burst ∧ seqRun k s = .next t.trapReturn ∧ Dispatched (toClaim s) t := by
  have hstep : seqStep s = .next (toClaim s) := by
    rw [seqStep_decode hrun hphase, hdecode]
    exact decodeStep_next_iff (act := (State.setPhase · .claim)) |>.2 ⟨hrun, hphase, rfl⟩
  obtain ⟨k, t, hk, ht, hdispatched⟩ := claim_run (s := toClaim s) hrun rfl hcursor
  have hk' : k ≤ 4 + s.params.burst := hk
  refine ⟨k + 1 + 1, t, by omega, ?_, hdispatched⟩
  rw [seqRun_succ hstep, seqRun_add ht, seqRun_succ (seqStep_ret hdispatched.running hdispatched.phase)]
  rfl

end Dispatch

/-! ## The steps left of a dispatch (R163) -/

section StepsLeft

variable {s : State}

/-- The burst of a refill in progress is at most `B`, and ends inside the message (R244). -/
theorem Inv.burst_bounds (h : Inv s) (hphase : s.seq.phase = .refill) :
    s.seq.bn ≤ s.params.burst ∧ s.engine.cursor + s.seq.bn ≤ s.params.msg.length := by
  obtain ⟨hbn, -⟩ := h.burst hphase
  obtain ⟨hcursor, -, -, -⟩ := h.engine
  rw [hbn, burstLength]
  omega

theorem stepsLeft_le (h : Inv s) : stepsLeft s ≤ 6 + s.params.burst := by
  cases hphase : s.seq.phase with
  | refill =>
    obtain ⟨hbn, -⟩ := h.burst_bounds hphase
    simp only [stepsLeft, hphase]
    omega
  | idle | decode | claim | readIp | rxcount | complete | ret =>
    simp only [stepsLeft, hphase]
    omega

/-- A step that stops the dispatch, or brings it nearer to its end (R163). -/
def Advances (s t : State) : Prop := t.seq.halted = true ∨ stepsLeft t < stepsLeft s

/-- Step DECODE halts, or leaves the return or the claim to do (R121). -/
theorem advances_causeEffect {t : State} (hphase : s.seq.phase = .decode) (he : CauseEffect s t) : Advances s t := by
  cases he with
  | halt r => exact .inl rfl
  | ret | claim =>
    refine .inr ?_
    simp only [stepsLeft, hphase, State.setPhase_seq, State.setPhase_params, State.readCause_params]
    omega

/-- The step of SEQ in the handler answers a next state, nearer to the end of the dispatch or halted. -/
theorem exists_seqStep_advances (h : Inv s) (hrun : s.seq.halted = false) (hphase : s.seq.phase ≠ .idle) :
    ∃ t, seqStep s = .next t ∧ Advances s t := by
  cases hp : s.seq.phase with
  | idle => exact absurd hp hphase
  | decode =>
    obtain ⟨act, hexec, heffect⟩ := decodeCause_isCauseRow s.params s.core.cause
    refine ⟨_, ?_, advances_causeEffect hp (heffect s)⟩
    rw [seqStep_decode hrun hp, hexec]
    exact decodeStep_next_iff.2 ⟨hrun, hp, rfl⟩
  | claim =>
    refine ⟨_, seqStep_claim hrun hp, .inr ?_⟩
    rw [afterClaim_winner]
    simp only [stepsLeft, hp, State.setSeq_seq]
    split_ifs <;> simp <;> omega
  | readIp =>
    refine ⟨_, seqStep_readIp hrun hp, .inr ?_⟩
    have hburst : burstLength s.params s.engine.cursor ≤ s.params.burst := Nat.min_le_left _ _
    rw [afterReadIp_ipWord]
    simp only [stepsLeft, hp, State.setSeq_seq]
    split_ifs <;> simp <;> omega
  | refill =>
    by_cases hmore : s.seq.bi < s.seq.bn
    · obtain ⟨-, hfit⟩ := h.burst_bounds hp
      obtain ⟨b, hb⟩ := exists_byte hfit hmore
      refine ⟨_, seqStep_push hrun hp hmore hb, .inr ?_⟩
      simp only [stepsLeft, pushed_seq, hp]
      omega
    · refine ⟨_, seqStep_finish hrun hp hmore, .inr ?_⟩
      simp [stepsLeft, hp, refillFinish]
      omega
  | rxcount => exact ⟨_, seqStep_rxcount hrun hp, .inr (by simp [stepsLeft, hp, rxCountStep])⟩
  | complete => exact ⟨_, seqStep_complete hrun hp, .inr (by simp [stepsLeft, hp])⟩
  | ret => exact ⟨_, seqStep_ret hrun hp, .inr (by simp [stepsLeft, hp])⟩

/-- A dispatch run alone ends in the foreground or in a halt within the steps left (R163). -/
theorem exists_seqRun_end (h : Inv s) (hrun : s.seq.halted = false) {n : Nat} (hn : stepsLeft s ≤ n) :
    ∃ k t, k ≤ n ∧ seqRun k s = .next t ∧ (t.seq.phase = .idle ∨ t.seq.halted = true) := by
  induction n generalizing s with
  | zero =>
    refine ⟨0, s, le_rfl, rfl, .inl ?_⟩
    cases hp : s.seq.phase with
    | idle => rfl
    | decode | claim | readIp | refill | rxcount | complete | ret => simp [stepsLeft, hp] at hn
  | succ n ih =>
    by_cases hp : s.seq.phase = .idle
    · exact ⟨0, s, Nat.zero_le _, rfl, .inl hp⟩
    · obtain ⟨t, ht, hadvances⟩ := exists_seqStep_advances h hrun hp
      cases hhalt : t.seq.halted with
      | true => exact ⟨1, t, by omega, seqRun_succ ht 0, .inr hhalt⟩
      | false =>
        have hinv : Inv t := h.eventEffect (agentStep_effect (e := .seq) ht)
        have hlt : stepsLeft t < stepsLeft s := hadvances.resolve_left (by simp [hhalt])
        obtain ⟨k, u, hk, hu, hend⟩ := ih hinv hhalt (by omega)
        exact ⟨k + 1, u, by omega, (seqRun_succ ht k).trans hu, hend⟩

/-- In the handler an event of another agent than SEQ, reset apart, answers a next state, and at most the flag of a
nested trap changes in the sequencer. -/
theorem exists_agentStep_of_handler (hphase : s.seq.phase ≠ .idle) {e : Event} (hseq : e ≠ .seq)
    (hreset : ∀ u : PowerOn, e ≠ .reset u) :
    ∃ t, agentStep e s = .next t ∧ t.params = s.params ∧ ∃ nested, t.seq = { s.seq with nestedTrap := nested } := by
  cases e with
  | seq => exact absurd rfl hseq
  | reset u => exact absurd rfl (hreset u)
  | request r => exact ⟨s, by simp [agentStep, requestStep, hphase], rfl, _, rfl⟩
  | gateway src =>
    refine ⟨_, rfl, ?_⟩
    obtain ⟨-, hs⟩ | ⟨-, hs⟩ := gatewayStep_cases src s <;> rw [hs] <;> exact ⟨rfl, _, rfl⟩
  | serialize =>
    refine ⟨_, rfl, ?_⟩
    obtain ⟨b, rest, -, -, hs⟩ | ⟨-, hs⟩ := serializerStep_cases s <;> rw [hs] <;> exact ⟨rfl, _, rfl⟩
  | setLine src level =>
    refine ⟨_, rfl, ?_⟩
    unfold setLineStep
    split <;> exact ⟨rfl, _, rfl⟩
  | setRxwm level => exact ⟨_, rfl, rfl, _, rfl⟩
  | corePc pc => exact ⟨s, by simp [agentStep, corePcStep, hphase], rfl, _, rfl⟩
  | trap w =>
    by_cases hdelivered : (s.seq.halted || !admitted s.params s.core w) = true
    · exact ⟨s, by rw [agentStep, deliverTrap, if_pos hdelivered], rfl, _, rfl⟩
    · exact ⟨s.setSeq { s.seq with nestedTrap := true },
        by rw [agentStep, deliverTrap, if_neg hdelivered, if_pos hphase], rfl, _, rfl⟩

end StepsLeft

end Sys2Proof.Safety
end

section
/-! The statements of the trap-dispatch family: the cause rows, the steps of the handler, the dispatch as one operation
with its bound, and the transaction a step of SEQ runs. -/

namespace Sys2Proof.Proofs

open Sys2Proof.Machine Sys2Proof.Safety Sys2Proof.Claims

/-! ## Cause rows -/

/-- Settles O1: each row is a step DECODE with a fatal action. -/
theorem reservedInterruptCodes0To6Halt : Obligations.ReservedInterruptCodes0To6Halt :=
  ⟨causeRow_of_fatal rfl fun _ => rfl, causeRow_of_fatal rfl fun _ => rfl, causeRow_of_fatal rfl fun _ => rfl,
    causeRow_of_fatal rfl fun _ => rfl, causeRow_of_fatal rfl fun _ => rfl, causeRow_of_fatal rfl fun _ => rfl⟩

/-- Settles O2: each row is a step DECODE with a fatal action. -/
theorem reservedInterruptCodes8To15Halt : Obligations.ReservedInterruptCodes8To15Halt :=
  ⟨causeRow_of_fatal rfl fun _ => rfl, causeRow_of_fatal rfl fun _ => rfl, causeRow_of_fatal rfl fun _ => rfl,
    causeRow_of_fatal rfl fun _ => rfl, causeRow_of_fatal rfl fun _ => rfl, causeRow_of_fatal rfl fun _ => rfl,
    causeRow_of_fatal rfl fun _ => rfl⟩

/-- Settles O3: the action of these rows does not look at SYNC_ACTION. -/
theorem reservedExceptionCodesHalt : Obligations.ReservedExceptionCodesHalt :=
  ⟨causeRow_of_fatal rfl fun _ => rfl, causeRow_of_fatal rfl fun _ => rfl, causeRow_of_fatal rfl fun _ => rfl,
    causeRow_of_fatal rfl fun _ => rfl⟩

/-- Settles O4: each row is a step DECODE that sets its phase. -/
theorem recognisedInterruptsChooseTheirPhase : Obligations.RecognisedInterruptsChooseTheirPhase :=
  ⟨causeRow_of_phase rfl fun _ => rfl, causeRow_of_phase rfl fun _ => rfl, causeRow_of_phase rfl fun _ => rfl⟩

/-- Settles O5: each row is a step DECODE with the SyncAction of its code. -/
theorem definedExceptionsFollowSyncAction : Obligations.DefinedExceptionsFollowSyncAction :=
  ⟨causeRow_of_syncAction rfl fun _ => rfl, causeRow_of_syncAction rfl fun _ => rfl,
    causeRow_of_syncAction rfl fun _ => rfl, causeRow_of_syncAction rfl fun _ => rfl,
    causeRow_of_syncAction rfl fun _ => rfl, causeRow_of_syncAction rfl fun _ => rfl,
    causeRow_of_syncAction rfl fun _ => rfl, causeRow_of_syncAction rfl fun _ => rfl,
    causeRow_of_syncAction rfl fun _ => rfl, causeRow_of_syncAction rfl fun _ => rfl,
    causeRow_of_syncAction rfl fun _ => rfl, causeRow_of_syncAction rfl fun _ => rfl⟩

/-! ## The steps of the handler -/

/-- Settles O26. -/
theorem trapReturnRestores : Obligations.TrapReturnRestores := fun s hrun hphase =>
  ⟨s.trapReturn.core.status, seqStep_ret hrun hphase, trapReturn_mie s, trapReturn_mpie s, fun _ =>
    trapReturn_status_of_ne s⟩

/-- Settles O27: the arbiter's winner is that of R180, and a source's id is not 0. -/
theorem claimPhaseChoosesByIdentifier : Obligations.ClaimPhaseChoosesByIdentifier := by
  intro s hrun hphase
  rw [seqStep_claim hrun hphase, afterClaim_winner]
  constructor
  · intro w hw
    have hwinner := winner_eq_some_iff.2 hw
    have hid := id_bounds w
    have huart : Src.id w = Src.id s.params.src.uart0 ↔ w = s.params.src.uart0 := ⟨id_inj, congrArg _⟩
    have hread : (BitVec.ofNat 32 (Src.id w)).toNat = Src.id w := winnerId_of_some hwinner ▸ toNat_winnerWord s.plic
    rw [winnerId_of_some hwinner, claimWinner_of_some hwinner, if_neg (by omega)]
    simp only [huart, State.memRead, hread]
    rfl
  · intro hnone
    have hwinner := winner_eq_none_iff.2 hnone
    rw [winnerId_of_none hwinner, claimWinner_of_none hwinner, if_pos rfl]
    rfl

/-- Settles O28: `UART0_IP` shows the transmit condition in bit 0 and the receive condition in bit 1. -/
theorem readIpPhaseServesTransmitFirst : Obligations.ReadIpPhaseServesTransmitFirst := by
  intro s hrun hphase
  rw [seqStep_readIp hrun hphase, afterReadIp_ipWord]
  rfl

/-- Settles O29: the invariant says that the latched id is that of a source. -/
theorem countAndCompletePhases : Obligations.CountAndCompletePhases := by
  refine fun s hrun => ⟨seqStep_rxcount hrun, fun hphase hinv => ?_⟩
  obtain ⟨src, hid, -⟩ := hinv.served (by simp [hphase, serving])
  refine ⟨src, hid, ?_⟩
  rw [seqStep_complete hrun hphase, completeId_of_id s.plic hid]
  rfl

/-! ## The dispatch -/

/-- Settles O32, from the run of a dispatch that `external_run` describes. -/
theorem externalDispatchIsTheBigStep : Obligations.ExternalDispatchIsTheBigStep := by
  intro s hinv hrun hphase hdecode
  obtain ⟨hcursor, -, -, -⟩ := hinv.engine
  obtain ⟨k, t, hk, ht, hdone⟩ := external_run hrun hphase (Except.ok.inj hdecode) hcursor.le
  have hplic : t.plic = s.plic.serveWinner := hdone.plic
  have hengine : t.engine = if s.plic.winnerId = Src.id s.params.src.uart0 then servedEngine s else s.engine :=
    hdone.engine
  obtain ⟨hprio, hie, hthr⟩ := serveWinner_rest s.plic
  refine ⟨k, t.trapReturn, hk, ht, rfl, hdone.running, ?trace, ?insvc, ?ip, ?prio, ?ie, ?thr, ?transmit, ?other,
    ?rxCount, congrArg CoreState.epc hdone.core, ?mie, trapReturn_mpie t, hdone.inputs⟩
  case trace => exact hdone.trace.trans (List.append_assoc ..)
  case insvc =>
    intro src
    rw [State.trapReturn_plic, hplic, serveWinner_insvc]
  case ip =>
    intro src
    rw [State.trapReturn_plic, hplic, serveWinner_ip]
  case prio => rw [State.trapReturn_plic, hplic, hprio]
  case ie => rw [State.trapReturn_plic, hplic, hie]
  case thr => rw [State.trapReturn_plic, hplic, hthr]
  case transmit =>
    rintro ⟨huart0, htx⟩
    rw [State.trapReturn_engine, hengine, if_pos huart0, servedEngine_of_transmit htx]
  case other =>
    refine fun hno => ⟨?_, hdone.uart hno⟩
    rw [State.trapReturn_engine, hengine]
    split_ifs with huart0
    · exact servedEngine_cursor_of_not_transmit fun htx => hno ⟨huart0, htx⟩
    · rfl
  case rxCount =>
    rw [State.trapReturn_engine, hengine]
    by_cases huart0 : s.plic.winnerId = Src.id s.params.src.uart0
    · simp only [huart0, if_true, true_and, servedEngine_rxCount]
    · simp only [huart0, if_false, false_and]
  case mie => rw [trapReturn_mie, hdone.core]; rfl

/-- Settles O33: the steps left bound the run from phase DECODE, and only a step of SEQ lowers them. -/
theorem dispatchFinishesWithinBound : Obligations.DispatchFinishesWithinBound := by
  constructor
  · intro s hinv hrun _
    exact exists_seqRun_end hinv hrun (stepsLeft_le hinv)
  · intro s hinv hrun hphase
    refine ⟨stepsLeft_le hinv, exists_seqStep_advances hinv hrun hphase, fun e hseq hreset => ?_⟩
    obtain ⟨t, ht, hparams, nested, htseq⟩ := exists_agentStep_of_handler hphase hseq hreset
    refine ⟨t, ht, ?_, ?_, ?_⟩
    · rw [htseq]
    · rw [htseq, ← hrun]
    · rw [stepsLeft, htseq, hparams, stepsLeft]

/-! ## The transaction of a step -/

/-- Settles O47: taking the event leaves what SEQ fetches. -/
theorem stepRunsTheDecodedTransaction : Obligations.StepRunsTheDecodedTransaction := by
  intro s hnext hrun
  obtain ⟨hparams, hseq, hcore, hfg⟩ := takeEvent_rest s
  have hstep := step_of_seq hnext
  have hrun' : (takeEvent s).seq.halted = false := hseq ▸ hrun
  have hidle : s.seq.phase = .idle → step s = foregroundStep (takeEvent s) := fun hphase =>
    hstep.trans (seqStep_idle hrun' (hseq ▸ hphase))
  refine ⟨hstep, ?cause, ?raw, ?rejected, ?named⟩
  case cause =>
    intro x i hfetch hdecode hphase
    obtain ⟨-, rfl⟩ | ⟨hp, -⟩ := fetch_eq_some_iff.1 hfetch
    · rw [hstep, seqStep_decode hrun' (hseq ▸ hphase), hparams, hcore, Except.ok.inj hdecode]
    · cases hp.symm.trans hphase
  case raw =>
    intro x i m rest hfetch hdecode hphase htodo
    obtain ⟨hp, -⟩ | ⟨-, rest', hraw⟩ := fetch_eq_some_iff.1 hfetch
    · cases hp.symm.trans hphase
    · obtain ⟨rfl, rfl⟩ : m = .raw x ∧ rest = rest' := by simpa using htodo.symm.trans hraw
      rw [hidle hphase, foregroundStep_of_instr (hfg ▸ htodo)]
      rw [microInstr, hparams, hdecode]
  case rejected =>
    intro x e hfetch hdecode
    obtain ⟨-, rfl⟩ | ⟨hphase, rest, htodo⟩ := fetch_eq_some_iff.1 hfetch
    · cases hdecode
    · rw [hidle hphase, foregroundStep_of_error (hfg ▸ htodo)]
      rw [microInstr, hparams, hdecode]
  case named =>
    intro i rest hphase htodo
    rw [hidle hphase, foregroundStep_of_instr (hfg ▸ htodo) rfl]

end Sys2Proof.Proofs
end

section
/-! The words of the PLIC tables, the rows of format MMIO, and the operations and commands of the PLIC (R97 to R99,
R171 to R195), one equation each. -/

namespace Sys2Proof.Machine

open Sys2Proof.Safety Sys2Proof.Claims

/-! ## Table words -/

/-- The bit of a source in its word of a table is its entry (R98). -/
theorem tableWord_getLsbD_id (t : Table Bool) {k : Nat} {src : Src} (h : Src.id src / 32 = k) :
    (tableWord k t).getLsbD (Src.id src % 32) = t[src] := by
  have hposition : 32 * k + Src.id src % 32 = Src.id src := by omega
  rw [tableWord_getLsbD k t _ (Nat.mod_lt _ (by omega)), hposition, tableBit_id]

/-- A bit of a word at a position without a source reads 0 (R98). -/
theorem tableWord_getLsbD_of_no_source (t : Table Bool) {k b : Nat} (h : 32 * k + b = 0 ∨ 52 < 32 * k + b) :
    (tableWord k t).getLsbD b = false := by
  by_cases hb : b < 32
  · rw [tableWord_getLsbD k t b hb, tableBit_none t h]
  · exact BitVec.getLsbD_of_ge _ b (by omega)

/-- Word 0 holds the sources below 32, and no source at bit 0 (R98). -/
theorem tableWord_zero (t : Table Bool) :
    (tableWord 0 t).getLsbD 0 = false ∧
      ∀ src, Src.id src < 32 → (tableWord 0 t).getLsbD (Src.id src) = t[src] := by
  refine ⟨tableWord_getLsbD_of_no_source t (.inl rfl), fun src hsrc => ?_⟩
  have hbit := tableWord_getLsbD_id t (Nat.div_eq_of_lt hsrc)
  rwa [Nat.mod_eq_of_lt hsrc] at hbit

/-- Word 1 holds the sources from 32 on, and no source from bit 21 on (R98). -/
theorem tableWord_one (t : Table Bool) :
    (∀ b, 21 ≤ b → (tableWord 1 t).getLsbD b = false) ∧
      ∀ src, 32 ≤ Src.id src → (tableWord 1 t).getLsbD (Src.id src - 32) = t[src] := by
  refine ⟨fun b hb => tableWord_getLsbD_of_no_source t (.inr (by omega)), fun src hsrc => ?_⟩
  have hle := id_bounds src
  have hbit := tableWord_getLsbD_id t (show Src.id src / 32 = 1 by omega)
  rwa [show Src.id src % 32 = Src.id src - 32 by omega] at hbit

/-- A write of word 0 replaces the entries of the sources below 32 (R184). -/
theorem tableWithWord_zero_get (t : Table Bool) (data : Word) (src : Src) :
    (tableWithWord 0 t data)[src] = if Src.id src < 32 then data.getLsbD (Src.id src) else t[src] := by
  rw [tableWithWord_get]
  by_cases h : Src.id src < 32
  · rw [if_pos (Nat.div_eq_of_lt h), if_pos h, Nat.mod_eq_of_lt h]
  · rw [if_neg (by omega), if_neg h]

/-- A write of word 1 replaces the entries of the sources from 32 on (R186). -/
theorem tableWithWord_one_get (t : Table Bool) (data : Word) (src : Src) :
    (tableWithWord 1 t data)[src] = if 32 ≤ Src.id src then data.getLsbD (Src.id src - 32) else t[src] := by
  have hle := id_bounds src
  rw [tableWithWord_get]
  by_cases h : 32 ≤ Src.id src
  · rw [if_pos (by omega), if_pos h, show Src.id src % 32 = Src.id src - 32 by omega]
  · rw [if_neg (by omega), if_neg h]

/-- Writing back a word of a table with the bit of one source set to `b` changes the entry of that source alone (R110). -/
theorem tableWithWord_withBit_get (t : Table Bool) (src : Src) (b : Bool) (x : Src) :
    (tableWithWord (Src.id src / 32) t (withBit (tableWord (Src.id src / 32) t) (Src.id src % 32) b))[x] =
      if x = src then b else t[x] := by
  rw [tableWithWord_get]
  by_cases hword : Src.id x / 32 = Src.id src / 32
  · have hbit : Src.id x % 32 = Src.id src % 32 ↔ x = src :=
      ⟨fun h => id_inj (by omega), fun h => by rw [h]⟩
    rw [if_pos hword, withBit_getLsbD _ _ _ _ (Nat.mod_lt _ (by omega)), tableWord_getLsbD_id t hword]
    simp only [hbit]
  · have hne : x ≠ src := fun h => hword (by rw [h])
    rw [if_neg hword, if_neg hne]

/-! ## Rows of format MMIO -/

/-- A read row is a read of its register that is issued and changes nothing (R94). -/
theorem readRow_of_issue {r : Register} {i : Instr} {value : State → Word} (hr : r.inRange) (hi : r.readInstr = i)
    (hexec : ∀ s, exec i s = issue s (s.memRead r (value s))) : ReadRow r i value :=
  ⟨fun _ data hm => hi ▸ decodeMmio_read hm hr data, fun s hrun => (hexec s).trans (issue_of_running hrun)⟩

/-- A write row is an effect outside trace and parameters, and the write of its register traced (R94). -/
theorem writeRow_of_issue {r : Register} {i : Word → Instr} {f : Word → State → State} (hr : r.inRange)
    (hi : ∀ data, r.writeInstr data = i data)
    (hexec : ∀ data s, exec (i data) s = issue s ((f data s).memWrite r data))
    (htrace : ∀ data s, (f data s).trace = s.trace := by intros; rfl)
    (hparams : ∀ data s, (f data s).params = s.params := by intros; rfl) :
    WriteRow r i f := by
  refine ⟨fun _ data hm => hi data ▸ decodeMmio_write hm hr data, fun s data hrun => ?_⟩
  rw [hexec, issue_of_running hrun, ← htrace data s, ← hparams data s]
  rfl

/-- The range of the array entry of a source (R94). -/
theorem inRange_priority_of_id {idx : BitVec 6} {src : Src} (h : idx.toNat = Src.id src) :
    (Register.priority idx).inRange := by
  rintro _ ⟨rfl⟩
  rw [h]
  exact id_bounds src

/-- The range of a register that is no array entry. -/
theorem inRange_of_fixed {r : Register} (h : Register.fixed.contains r = true) : r.inRange :=
  Register.inRange_of_mem_fixed (List.contains_iff_mem.1 h)

/-! ## The comparator -/

/-- A source that is not enabled is no candidate and does not fire (R178, R180). -/
theorem candidate_fires_of_disabled {p : PlicState} {src : Src} (h : p.ie[src] = false) :
    p.candidate src = false ∧ p.fires src = false := by
  simp [PlicState.candidate, PlicState.fires, h]

theorem fires_iff {p : PlicState} {src : Src} :
    p.fires src = true ↔ p.ip[src] = true ∧ p.ie[src] = true ∧ p.thr.toNat < p.prio[src].toNat := by
  simp [PlicState.fires, BitVec.lt_def, and_assoc]

theorem eip_iff {p : PlicState} : p.eip = true ↔ ∃ src, p.fires src = true := by
  simp [PlicState.eip]

/-- A running maximum over the elements that satisfy `c` is above `b` as soon as its start or one of them is. -/
theorem lt_foldl_max_iff {α : Type} (c : α → Bool) (f : α → Nat) (b : Nat) (l : List α) (m : Nat) :
    b < l.foldl (fun m a => if c a then max m (f a) else m) m ↔ b < m ∨ ∃ a ∈ l, c a = true ∧ b < f a := by
  induction l generalizing m with
  | nil => simp
  | cons a l ih =>
    rw [List.foldl_cons, ih]
    by_cases ha : c a = true <;> simp [ha, or_assoc]

/-- The largest priority is above the threshold exactly when a source fires (R178). -/
theorem thr_lt_maxPriority_iff {p : PlicState} :
    p.thr.toNat < maxPriority p ↔ ∃ src, p.fires src = true := by
  rw [maxPriority, lt_foldl_max_iff (fun src => p.ip[src] && p.ie[src])]
  simp [fires_iff, and_assoc]

/-! ## Claim and complete -/

section Operations

variable {s t : State}

theorem exec_plicClaimR (hrun : s.seq.halted = false) :
    exec .plicClaimR s =
      .next ((s.setPlic s.plic.claimWinner).memRead .claim (BitVec.ofNat 32 s.plic.winnerId)) := issue_of_running hrun

theorem exec_plicCompleteW (hrun : s.seq.halted = false) (data : Word) :
    exec (.plicCompleteW data) s =
      .next ((s.setPlic (s.plic.completeId data.toNat)).memWrite .claim data) := issue_of_running hrun

/-- What a completed claim leaves, as far as the PLIC and the word returned go (R181). -/
theorem claim_next (h : exec .plicClaimR s = .next t) :
    t.plic = s.plic.claimWinner ∧ t.rdata = s.plic.winnerId := by
  obtain ⟨-, rfl⟩ := issue_next_iff.1 h
  exact ⟨rfl, toNat_winnerWord s.plic⟩

/-- What a completed complete leaves of the PLIC (R182). -/
theorem complete_next {data : Word} (h : exec (.plicCompleteW data) s = .next t) :
    t.plic = s.plic.completeId data.toNat := by
  obtain ⟨-, rfl⟩ := issue_next_iff.1 h
  rfl

/-- An id other than the sentinel 0 is that of a winner (R100, R180). -/
theorem winner_of_winnerId_ne_zero {p : PlicState} (h : p.winnerId ≠ 0) : ∃ w, p.winner = some w := by
  cases hw : p.winner with
  | none => exact absurd (winnerId_of_none hw) h
  | some w => exact ⟨w, rfl⟩

/-- After a claim the winner is no candidate, so that no second claim returns its id (R181). -/
theorem claimWinner_winnerId_ne {p : PlicState} (h : p.winnerId ≠ 0) : p.claimWinner.winnerId ≠ p.winnerId := by
  obtain ⟨w, hw⟩ := winner_of_winnerId_ne_zero h
  intro hsame
  have hagain : p.claimWinner.winner = some w :=
    winner_eq_some_iff_id.2 (hsame.symm ▸ winner_eq_some_iff_id.1 hw)
  obtain ⟨⟨hip, -, -⟩, -⟩ := winner_eq_some_iff.1 hagain
  rw [claimWinner_ip, if_pos hw] at hip
  cases hip

theorem completeId_of_no_source (p : PlicState) {n : Nat} (h : n = 0 ∨ 52 < n) : p.completeId n = p := by
  simp [PlicState.completeId, srcOfId_eq_none_iff.2 h]

/-- With one candidate at most, a claim and its complete leave none (R200(b)). -/
theorem noCandidate_serveWinner {p : PlicState}
    (hone : ∀ x y : Src, p.candidate x = true → p.candidate y = true → x = y) : NoCandidate p.serveWinner := by
  rintro x ⟨hip, hie, hprio⟩
  obtain ⟨hprio', hie', -⟩ := serveWinner_rest p
  rw [serveWinner_ip] at hip
  rw [hie'] at hie
  rw [hprio'] at hprio
  obtain ⟨hid, hipx⟩ : Src.id x ≠ p.winnerId ∧ p.ip[x] = true := by simpa using hip
  have hx : p.candidate x = true := candidate_iff.2 ⟨hipx, hie, hprio⟩
  cases hw : p.winner with
  | none => exact winner_eq_none_iff.1 hw x (candidate_iff.1 hx)
  | some w =>
    have hwc : p.candidate w = true := candidate_iff.2 (winner_eq_some_iff.1 hw).1
    exact hid (hone x w hx hwc ▸ winner_eq_some_iff_id.1 hw)

/-- A claim and its complete give the in-service bits back as they were: the winner was not in service (R38). -/
theorem serveWinner_insvc_of_handshake {p : PlicState} (h : HandshakeOk p) : p.serveWinner.insvc = p.insvc := by
  refine Vector.ext fun i hi => ?_
  change p.serveWinner.insvc[(⟨i, hi⟩ : Src)] = p.insvc[(⟨i, hi⟩ : Src)]
  rw [serveWinner_insvc]
  split
  next hid =>
    obtain ⟨⟨hip, -, -⟩, -⟩ := winner_eq_some_iff.1 (winner_eq_some_iff_id.2 hid)
    cases hsvc : p.insvc[(⟨i, hi⟩ : Src)] with
    | false => rfl
    | true => exact absurd hip (by simp [h _ hsvc])
  next => rfl

/-! ## The gateway -/

theorem gatewayEnabled_iff {src : Src} :
    gatewayEnabled s src = true ↔ lineOf s src = true ∧ s.plic.ip[src] = false ∧ s.plic.insvc[src] = false := by
  simp [gatewayEnabled, and_assoc]

theorem gatewayStep_of_enabled {src : Src} (h : gatewayEnabled s src = true) :
    gatewayStep src s = s.setPlic (s.plic.latch src) := if_pos h

theorem gatewayStep_of_not_enabled {src : Src} (h : ¬gatewayEnabled s src = true) : gatewayStep src s = s := if_neg h

end Operations

/-! ## The commands -/

section Commands

variable {s : State}

/-- The register of the enable word of a source (R110, `EN(s)`). -/
def enableRegister (src : Src) : Register := if Src.id src < 32 then .enable0 else .enable1

theorem addr_enableRegister (m : AddrMap) (src : Src) :
    m.addr (enableRegister src) = if Src.id src < 32 then m.enable0 else m.enable1 := by
  unfold enableRegister
  split_ifs <;> rfl

theorem rmwRead_enableReg (src : Src) : rmwRead (enableReg src) = (enableRegister src).readInstr := by
  unfold enableReg enableRegister
  split_ifs <;> rfl

theorem rmwWrite_enableReg (src : Src) (data : Word) :
    rmwWrite data (enableReg src) = (enableRegister src).writeInstr data := by
  unfold enableReg enableRegister
  split_ifs <;> rfl

theorem exec_plicEnable0W (hrun : s.seq.halted = false) (data : Word) :
    exec (.plicEnable0W data) s =
      .next ((s.setPlic { s.plic with ie := tableWithWord 0 s.plic.ie data }).memWrite .enable0 data) :=
  issue_of_running hrun

theorem exec_plicEnable1W (hrun : s.seq.halted = false) (data : Word) :
    exec (.plicEnable1W data) s =
      .next ((s.setPlic { s.plic with ie := tableWithWord 1 s.plic.ie data }).memWrite .enable1 data) :=
  issue_of_running hrun

theorem exec_enableRegister_read (hrun : s.seq.halted = false) (src : Src) :
    exec (enableRegister src).readInstr s =
      .next (s.memRead (enableRegister src) (tableWord (Src.id src / 32) s.plic.ie)) := by
  have := id_bounds src
  unfold enableRegister
  split_ifs with h
  · rw [show Src.id src / 32 = 0 by omega]
    exact issue_of_running hrun
  · rw [show Src.id src / 32 = 1 by omega]
    exact issue_of_running hrun

theorem exec_enableRegister_write (hrun : s.seq.halted = false) (src : Src) (data : Word) :
    exec ((enableRegister src).writeInstr data) s =
      .next ((s.setPlic { s.plic with ie := tableWithWord (Src.id src / 32) s.plic.ie data }).memWrite
        (enableRegister src) data) := by
  have := id_bounds src
  unfold enableRegister
  split_ifs with h
  · rw [show Src.id src / 32 = 0 by omega]
    exact exec_plicEnable0W hrun data
  · rw [show Src.id src / 32 = 1 by omega]
    exact exec_plicEnable1W hrun data

/-- A read of a register keeps its word as the foreground's `v` (R110). -/
theorem latchRead_readInstr (r : Register) (u : State) :
    latchRead r.readInstr u = u.setFg { u.fg with v := BitVec.ofNat 32 u.rdata } := by
  simp [latchRead, isRead, encode_readInstr, readTx]

/-- A free foreground with a queue of micro-operations issues the first of them (R67, R110). -/
theorem seqStep_start_cons (h : Ready s) {m : Micro} {i : Instr} (rest : List Micro)
    (hm : microInstr (s.start (m :: rest)) m = some (.ok i)) :
    seqStep (s.start (m :: rest)) = andThen (exec i (s.start rest)) (latchRead i) := by
  obtain ⟨hrun, hidle, -⟩ := h
  exact (seqStep_idle (s := s.start (m :: rest)) hrun hidle).trans (foregroundStep_of_instr rfl hm)

/-- The state between the two accesses of a read-modify-write that read `v`: the write is issued from here (R110). -/
def afterRmwRead (r : Register) (v : Word) (s : State) : State := (s.memRead r v).setFg { todo := [], v := v }

/-- A read-modify-write of a register is two steps of SEQ: the read of `v`, and the write that the micro-operation `m`
makes of it (R67, R110). -/
theorem seqRun_rmw (h : Ready s) {r : Register} {m : Micro} {v data : Word} {t : State}
    (hread : exec r.readInstr (s.start [m]) = .next ((s.start [m]).memRead r v))
    (hm : ∀ u : State, u.fg.v = v → microInstr u m = some (.ok (r.writeInstr data)))
    (hwrite : exec (r.writeInstr data) (afterRmwRead r v s) = .next t) :
    seqRun 2 (s.start [.op r.readInstr, m]) = .next t := by
  have hfirst : seqStep (s.start [.op r.readInstr, m]) = .next ((afterRmwRead r v s).start [m]) := by
    rw [seqStep_start_cons h [m] rfl, hread, andThen, latchRead_readInstr]
    simp only [State.memRead_rdata, BitVec.ofNat_toNat, BitVec.setWidth_eq]
    rfl
  have hready : Ready (afterRmwRead r v s) := by
    obtain ⟨hrun, hidle, -⟩ := h
    exact ⟨hrun, hidle, rfl⟩
  have hsecond : seqStep ((afterRmwRead r v s).start [m]) = .next t := by
    rw [seqStep_start_cons hready [] (hm _ rfl), show (afterRmwRead r v s).start [] = afterRmwRead r v s from rfl, hwrite,
      andThen, latchRead_writeInstr]
  rw [seqRun_succ hfirst, seqRun_succ hsecond, seqRun]

theorem requestStep_claim (h : Ready s) : requestStep .claim s = .next (s.start [.op .plicClaimR]) := by
  simp only [requestStep, requestStep_guard_of_ready h, Bool.false_eq_true, if_false]

theorem requestStep_complete (h : Ready s) (id : Word) :
    requestStep (.complete id) s = .next (s.start [.op (.plicCompleteW id)]) := by
  simp only [requestStep, requestStep_guard_of_ready h, Bool.false_eq_true, if_false]

theorem requestStep_disableSource_all (h : Ready s) :
    requestStep (.disableSource .all) s =
      .next (s.start [.op (.plicEnable0W 0#32), .op (.plicEnable1W 0#32)]) := by
  simp only [requestStep, requestStep_guard_of_ready h, Bool.false_eq_true, if_false]

theorem requestStep_enableSource_of_denotes (h : Ready s) {a : SourceArg} {src : Src} (hsrc : Denotes s.params a src) :
    requestStep (.enableSource a) s =
      .next (s.start [.op (rmwRead (enableReg src)), .writeOr (enableReg src) (srcMask src)]) := by
  rw [requestStep_enableSource h, withSource_of_some _ (resolveSource_of_denotes hsrc)]

theorem requestStep_disableSource_of_denotes (h : Ready s) {a : SourceArg} {src : Src} (hsrc : Denotes s.params a src) :
    requestStep (.disableSource a) s =
      .next (s.start [.op (rmwRead (enableReg src)), .writeAndNot (enableReg src) (srcMask src)]) := by
  have hresolve := resolveSource_of_denotes hsrc
  obtain rfl | ⟨x, rfl, -⟩ := hsrc <;>
    simp only [requestStep, requestStep_guard_of_ready h, Bool.false_eq_true, if_false, withSource_of_some _ hresolve]

/-- What a command on one enable bit leaves: the bit set to `b`, the read and the write traced, the rest as it was (R189,
R193). -/
structure EnableChanged (s : State) (src : Src) (b : Bool) (v : Word) (t : State) : Prop where
  enables : ∀ x : Src, t.plic.ie[x] = if x = src then b else s.plic.ie[x]
  trace : t.trace = s.trace ++
    [.read (if Src.id src < 32 then s.params.map.enable0 else s.params.map.enable1) v,
      .write (if Src.id src < 32 then s.params.map.enable0 else s.params.map.enable1) (withBit v (Src.id src % 32) b)]
  ip : t.plic.ip = s.plic.ip
  insvc : t.plic.insvc = s.plic.insvc
  prio : t.plic.prio = s.plic.prio
  thr : t.plic.thr = s.plic.thr
  seq : t.seq = s.seq
  core : t.core = s.core
  uart : t.uart = s.uart
  engine : t.engine = s.engine

/-- The read-modify-write of an enable word with the bit of one source set to `b`. -/
theorem seqRun_enableChanged (h : Ready s) (src : Src) (b : Bool) {m : Micro}
    (hm : ∀ u : State, microInstr u m =
      some (.ok (rmwWrite (withBit u.fg.v (Src.id src % 32) b) (enableReg src)))) :
    ∃ t v, seqRun 2 (s.start [.op (rmwRead (enableReg src)), m]) = .next t ∧ EnableChanged s src b v t := by
  have ⟨hrun, _, _⟩ := h
  rw [rmwRead_enableReg]
  have hread := exec_enableRegister_read (s := s.start [m]) hrun src
  have hwrite :=
    exec_enableRegister_write (s := afterRmwRead (enableRegister src) (tableWord (Src.id src / 32) s.plic.ie) s) hrun src
  refine ⟨_, tableWord (Src.id src / 32) s.plic.ie,
    seqRun_rmw h hread (fun u hu => by rw [hm, hu, rmwWrite_enableReg]) (hwrite _), ?_⟩
  exact
    { enables := tableWithWord_withBit_get s.plic.ie src b
      trace := by simp [afterRmwRead, addr_enableRegister]
      ip := by simp [afterRmwRead]
      insvc := by simp [afterRmwRead]
      prio := by simp [afterRmwRead]
      thr := by simp [afterRmwRead]
      seq := by simp [afterRmwRead]
      core := by simp [afterRmwRead]
      uart := by simp [afterRmwRead]
      engine := by simp [afterRmwRead] }

/-- A write at the head of the queue of a free foreground is issued as it is, and latches nothing (R110). -/
theorem seqStep_start_write (h : Ready s) {r : Register} {data : Word} {rest : List Micro} {u : State}
    (hexec : exec (r.writeInstr data) (s.start rest) = .next u) :
    seqStep (s.start (.op (r.writeInstr data) :: rest)) = .next u := by
  rw [seqStep_start_cons h rest rfl, hexec, andThen, latchRead_writeInstr]

/-- `disable_source("all")` clears every enable bit by two writes (R190). -/
theorem seqRun_disableAll (h : Ready s) :
    ∃ t, seqRun 2 (s.start [.op (.plicEnable0W 0#32), .op (.plicEnable1W 0#32)]) = .next t ∧
      t.seq.halted = false ∧ (∀ x : Src, t.plic.ie[x] = false) ∧ t.plic.ip = s.plic.ip ∧
      t.trace = s.trace ++ [.write s.params.map.enable0 0#32, .write s.params.map.enable1 0#32] := by
  have ⟨hrun, hidle, hfree⟩ := h
  have hfirst := seqStep_start_write (r := .enable0) h
    (exec_plicEnable0W (s := s.start [.op (.plicEnable1W 0#32)]) hrun 0#32)
  have hready : Ready ((s.setPlic { s.plic with ie := tableWithWord 0 s.plic.ie 0#32 }).memWrite .enable0 0#32) :=
    ⟨hrun, hidle, hfree⟩
  have hsecond := seqStep_start_write (r := .enable1) (rest := []) hready (exec_plicEnable1W (by exact hrun) 0#32)
  refine ⟨_, (seqRun_succ hfirst 1).trans (seqRun_succ hsecond 0), hrun, fun x => ?_, by simp [State.start], ?_⟩
  · have hword : Src.id x / 32 = 0 ∨ Src.id x / 32 = 1 := by
      have := id_bounds x
      omega
    simp only [State.memWrite_plic, State.setPlic_plic, State.start, State.setFg_plic, tableWithWord_get,
      BitVec.getLsbD_zero]
    rcases hword with h | h <;> simp [h]
  · simp [State.start, AddrMap.addr]

end Commands

end Sys2Proof.Machine
end

section
/-! The statements of the PLIC family: the rows of the register map, the comparator, claim and complete, the commands,
the gateway and the state machine of a source. -/

namespace Sys2Proof.Proofs

open Sys2Proof.Machine Sys2Proof.Safety Sys2Proof.Claims

/-! ## The registers -/

/-- Settles O8: an index in range names its source, and one out of range none. -/
theorem priorityRegisterReadsAndWrites : Obligations.PriorityRegisterReadsAndWrites := by
  intro idx
  constructor
  · intro src hidx
    have hsrc : srcOfIndex idx = some src := srcOfId_eq_some_iff.2 hidx.symm
    have hrange := inRange_priority_of_id hidx
    exact ⟨readRow_of_issue hrange rfl fun s => by simp [exec, execPlicPriorityR, hsrc],
      writeRow_of_issue hrange (fun _ => rfl) fun data s => by
        simp [exec, execPlicPriorityW, hsrc, State.setPlic, levelOf]⟩
  · intro hidx s data
    have hnone : srcOfIndex idx = none := srcOfId_eq_none_iff.2 hidx
    exact ⟨by simp [exec, execPlicPriorityR, hnone], by simp [exec, execPlicPriorityW, hnone]⟩

/-- Settles O9: the words are those of the pending table. -/
theorem pendingWordsReadAndIgnoreWrites : Obligations.PendingWordsReadAndIgnoreWrites := by
  refine ⟨⟨fun s => tableWord 0 s.plic.ip, readRow_of_issue (inRange_of_fixed rfl) rfl fun _ => rfl, fun s => ?_⟩,
    ⟨fun s => tableWord 1 s.plic.ip, readRow_of_issue (inRange_of_fixed rfl) rfl fun _ => rfl, fun s =>
      tableWord_one s.plic.ip⟩,
    writeRow_of_issue (inRange_of_fixed rfl) (fun _ => rfl) fun _ _ => rfl,
    writeRow_of_issue (inRange_of_fixed rfl) (fun _ => rfl) fun _ _ => rfl⟩
  obtain ⟨hzero, hbits⟩ := tableWord_zero s.plic.ip
  exact ⟨hzero, hbits, fun hok src hsrc hsvc => (hbits src hsrc).trans (hok src hsvc)⟩

/-- Settles O10: the words are those of the enable table. -/
theorem enableWordsReadEnables : Obligations.EnableWordsReadEnables :=
  ⟨⟨_, readRow_of_issue (inRange_of_fixed rfl) rfl fun _ => rfl, fun s => tableWord_zero s.plic.ie⟩,
    ⟨_, readRow_of_issue (inRange_of_fixed rfl) rfl fun _ => rfl, fun s => tableWord_one s.plic.ie⟩⟩

/-- Settles O11: a source whose bit is cleared is disabled in the new table. -/
theorem enableWritesReplaceTheirWord : Obligations.EnableWritesReplaceTheirWord := by
  refine ⟨⟨fun data s => tableWithWord 0 s.plic.ie data, ?_, fun data s src => ?_⟩,
    ⟨fun data s => tableWithWord 1 s.plic.ie data, ?_, fun data s src => ?_⟩⟩
  · exact writeRow_of_issue (inRange_of_fixed rfl) (fun _ => rfl) fun _ _ => rfl
  · have hget := tableWithWord_zero_get s.plic.ie data src
    exact ⟨hget, fun hsrc hbit => candidate_fires_of_disabled (hget.trans ((if_pos hsrc).trans hbit))⟩
  · exact writeRow_of_issue (inRange_of_fixed rfl) (fun _ => rfl) fun _ _ => rfl
  · have hget := tableWithWord_one_get s.plic.ie data src
    exact ⟨hget, fun hsrc hbit => candidate_fires_of_disabled (hget.trans ((if_pos hsrc).trans hbit))⟩

/-- Settles O12: the arbiter does not look at the threshold. -/
theorem thresholdRegisterReadsAndWrites : Obligations.ThresholdRegisterReadsAndWrites :=
  ⟨readRow_of_issue (inRange_of_fixed rfl) rfl fun _ => rfl,
    writeRow_of_issue (inRange_of_fixed rfl) (fun _ => rfl) fun _ _ => rfl, fun _ _ => rfl⟩

/-- Settles O15: both forms say that some source fires. -/
theorem comparatorHasBothForms : Obligations.ComparatorHasBothForms := by
  intro p
  refine ⟨by simp only [eip_iff, fires_iff], eip_iff.trans thr_lt_maxPriority_iff.symm, ?seven,
    fun src => ⟨?zero, ?svc⟩⟩
  case seven =>
    intro hthr
    refine Bool.eq_false_iff.2 fun heip => ?_
    obtain ⟨src, hfires⟩ := eip_iff.1 heip
    obtain ⟨-, -, hlt⟩ := fires_iff.1 hfires
    have hlevel := (p.prio[src]).isLt
    rw [hthr] at hlt
    change 7 < (p.prio[src]).toNat at hlt
    omega
  case zero =>
    intro hprio
    refine Bool.eq_false_iff.2 fun hfires => ?_
    obtain ⟨-, -, hlt⟩ := fires_iff.1 hfires
    rw [hprio] at hlt
    exact absurd hlt (Nat.not_lt_zero _)
  case svc =>
    intro hok hsvc
    refine Bool.eq_false_iff.2 fun hfires => ?_
    obtain ⟨hip, -, -⟩ := fires_iff.1 hfires
    exact absurd hip (by simp [hok src hsvc])

/-! ## Claim and complete -/

/-- Settles O13: the arbiter's winner is that of R180, and a claim takes it out of the candidates. -/
theorem claimTakesTheWinner : Obligations.ClaimTakesTheWinner := by
  refine ⟨fun p data hm => decodeMmio_read hm (r := .claim) (inRange_of_fixed rfl) data, fun s hrun =>
    ⟨fun w hw => ?winner, fun hnone => ?none, ?exhaustive, fun t u hfirst hne hsecond => ?again⟩⟩
  case winner =>
    have hwinner := winner_eq_some_iff.2 hw
    have hread : (BitVec.ofNat 32 (Src.id w)).toNat = Src.id w := winnerId_of_some hwinner ▸ toNat_winnerWord s.plic
    rw [exec_plicClaimR hrun, claimWinner_of_some hwinner, winnerId_of_some hwinner, State.memRead, hread]
    rfl
  case none =>
    have hwinner := winner_eq_none_iff.2 hnone
    rw [exec_plicClaimR hrun, claimWinner_of_none hwinner, winnerId_of_none hwinner]
    rfl
  case exhaustive =>
    cases hwinner : s.plic.winner with
    | none => exact .inl (winner_eq_none_iff.1 hwinner)
    | some w => exact .inr ⟨w, winner_eq_some_iff.1 hwinner⟩
  case again =>
    obtain ⟨hplic, hrdata⟩ := claim_next hfirst
    obtain ⟨-, hrdata'⟩ := claim_next hsecond
    rw [hrdata', hplic, hrdata]
    exact claimWinner_winnerId_ne (hrdata ▸ hne)

/-- Settles O14. -/
theorem completeReleasesItsId : Obligations.CompleteReleasesItsId := by
  refine ⟨fun p data hm => decodeMmio_write hm (r := .claim) (inRange_of_fixed rfl) data, fun s data hrun =>
    ⟨fun src hid => ?_, fun hother => ?_⟩⟩
  · rw [exec_plicCompleteW hrun, completeId_of_id s.plic hid]
    rfl
  · rw [exec_plicCompleteW hrun, completeId_of_no_source s.plic hother]
    rfl

/-- Settles O43: the gateway of a source in service is not enabled. -/
theorem wrongCompleteLeavesSourceLocked : Obligations.WrongCompleteLeavesSourceLocked := by
  intro s t x y data hx hne hdata hexec
  have hinsvc (src : Src) : t.plic.insvc[src] = if Src.id src = Src.id y then false else s.plic.insvc[src] := by
    rw [complete_next hexec, completeId_insvc, hdata]
  have hlocked : t.plic.insvc[x] = true := by rw [hinsvc, if_neg fun hid => hne (id_inj hid), hx]
  refine ⟨hlocked, by rw [hinsvc, if_pos rfl], congrArg _ (gatewayStep_of_not_enabled fun hgw => ?_)⟩
  obtain ⟨-, -, hsvc⟩ := gatewayEnabled_iff.1 hgw
  exact absurd hlocked (by simp [hsvc])

/-! ## The commands -/

/-- Settles O36: each command is the read-modify-write of the enable word with the one bit set, or cleared. -/
theorem enableAndDisableChangeOneSource : Obligations.EnableAndDisableChangeOneSource := by
  intro s src arg hready hsrc
  obtain ⟨t, v, ht, henabled⟩ := seqRun_enableChanged hready src true (m := .writeOr (enableReg src) (srcMask src))
    fun _ => rfl
  obtain ⟨t', v', ht', hdisabled⟩ := seqRun_enableChanged hready src false
    (m := .writeAndNot (enableReg src) (srcMask src)) fun _ => rfl
  exact ⟨⟨_, t, v, requestStep_enableSource_of_denotes hready hsrc, ht, henabled.enables, henabled.trace, henabled.ip,
      henabled.insvc, henabled.prio, henabled.thr, henabled.seq, henabled.core, henabled.uart, henabled.engine⟩,
    ⟨_, t', v', requestStep_disableSource_of_denotes hready hsrc, ht', hdisabled.enables, hdisabled.trace, hdisabled.ip,
      hdisabled.insvc, hdisabled.prio, hdisabled.thr, hdisabled.seq, hdisabled.core, hdisabled.uart,
      hdisabled.engine⟩⟩

/-- Settles O37: without an enabled source none fires and none is a candidate. -/
theorem disableAllThenClaimReturnsZero : Obligations.DisableAllThenClaimReturnsZero := by
  intro s hready
  obtain ⟨b, hb, hrun, hie, hip, htrace⟩ := seqRun_disableAll hready
  have hclaim := exec_plicClaimR hrun
  have hnone : b.plic.winner = none := winner_eq_none_iff.2 fun x ⟨_, hx, _⟩ => by simp [hie x] at hx
  have heip : b.plic.eip = false := Bool.eq_false_iff.2 fun heip => by
    obtain ⟨x, hfires⟩ := eip_iff.1 heip
    simp [(candidate_fires_of_disabled (hie x)).2] at hfires
  obtain ⟨hplic, hrdata⟩ := claim_next hclaim
  exact ⟨_, b, _, requestStep_disableSource_all hready, hb, hclaim, hie, hip, heip, htrace,
    hrdata.trans (winnerId_of_none hnone), hplic.trans (claimWinner_of_none hnone)⟩

/-- Settles O42: claim and complete together are `PlicState.serveWinner`. -/
theorem claimCompleteClaimReturnsZero : Obligations.ClaimCompleteClaimReturnsZero := by
  constructor
  · intro s id hready
    have ⟨hrun, _, _⟩ := hready
    constructor
    · refine ⟨_, _, requestStep_claim hready, exec_plicClaimR hrun, ?_⟩
      exact (seqRun_one_op hready (exec_plicClaimR (s := s.start []) hrun)).trans
        (congrArg _ (latchRead_readInstr .claim _))
    · refine ⟨_, _, requestStep_complete hready id, exec_plicCompleteW hrun id, ?_⟩
      exact seqRun_one_write (r := .claim) hready (exec_plicCompleteW (s := s.start []) hrun id)
  · intro s a b c hok hone hclaim hcomplete hagain
    obtain ⟨haplic, hardata⟩ := claim_next hclaim
    obtain ⟨-, hcrdata⟩ := claim_next hagain
    have hbplic : b.plic = s.plic.serveWinner := by
      rw [complete_next hcomplete, haplic, hardata, toNat_winnerWord, PlicState.serveWinner]
    rw [hcrdata, hbplic]
    exact ⟨winnerId_of_none (winner_eq_none_iff.2 (noCandidate_serveWinner hone)), serveWinner_insvc_of_handshake hok⟩

/-! ## The gateway -/

/-- Settles O44. -/
theorem gatewayLatchesIdleSource : Obligations.GatewayLatchesIdleSource := by
  intro s src
  refine ⟨fun hline hip hsvc => ?_, fun hoff => ?_, fun hfree => if_neg hfree, fun level =>
    ⟨fun hfree => congrArg _ (if_neg hfree), fun huart => congrArg _ (if_pos huart), rfl⟩⟩
  · exact congrArg _ (gatewayStep_of_enabled (gatewayEnabled_iff.2 ⟨hline, hip, hsvc⟩))
  · refine congrArg _ (gatewayStep_of_not_enabled fun hgw => ?_)
    obtain ⟨hline, hip, hsvc⟩ := gatewayEnabled_iff.1 hgw
    simp [hline, hip, hsvc] at hoff

/-! ## The state machine of a source -/

/-- A source stays as it is (R199). -/
def SourceKept (p q : PlicState) (src : Src) : Prop := q.ip[src] = p.ip[src] ∧ q.insvc[src] = p.insvc[src]

/-- A source goes from pending to in service: the winner of the claim read that the step traces (R181, R199). -/
def SourceClaimed (s t : State) (src : Src) : Prop :=
  s.plic.ip[src] = true ∧ s.plic.insvc[src] = false ∧ t.plic.ip[src] = false ∧ t.plic.insvc[src] = true ∧
    IsWinner s.plic src ∧ t.trace = s.trace ++ [.read s.params.map.claim (BitVec.ofNat 32 (Src.id src))]

/-- A source goes from in service to idle by the complete of its id that the step traces (R182, R199). -/
def SourceCompleted (s t : State) (src : Src) : Prop :=
  s.plic.ip[src] = false ∧ s.plic.insvc[src] = true ∧ t.plic.ip[src] = false ∧ t.plic.insvc[src] = false ∧
    ∃ d : Word, d.toNat = Src.id src ∧ t.trace = s.trace ++ [.write s.params.map.claim d]

/-- What a step of SEQ may do to a source. -/
def MovedBySeq (s t : State) (src : Src) : Prop :=
  SourceKept s.plic t.plic src ∨ SourceClaimed s t src ∨ SourceCompleted s t src

theorem SourceKept.of_eq {p q : PlicState} (h : q = p) (src : Src) : SourceKept p q src := by
  rw [h]
  exact ⟨rfl, rfl⟩

section Moves

variable {s t : State} (hok : HandshakeOk s.plic) (src : Src)
include hok

/-- A claim moves the winner, and no other source. -/
theorem movedBySeq_claim (hplic : t.plic = s.plic.claimWinner)
    (htrace : t.trace = s.trace ++ [.read s.params.map.claim (BitVec.ofNat 32 s.plic.winnerId)]) :
    MovedBySeq s t src := by
  have hip := claimWinner_ip s.plic src
  have hsvc := claimWinner_insvc s.plic src
  rw [← hplic] at hip hsvc
  by_cases hw : s.plic.winner = some src
  · have hwinner := winner_eq_some_iff.1 hw
    have ⟨⟨hpending, _, _⟩, _⟩ := hwinner
    have hfree : s.plic.insvc[src] = false := Bool.eq_false_iff.2 fun h => by simp [hok src h] at hpending
    rw [if_pos hw] at hip hsvc
    rw [winnerId_of_some hw] at htrace
    exact .inr (.inl ⟨hpending, hfree, hip, hsvc, hwinner, htrace⟩)
  · rw [if_neg hw] at hip hsvc
    exact .inl ⟨hip, hsvc⟩

/-- A complete releases the source of its id if that was in service, and no other source. -/
theorem movedBySeq_complete {d : Word} (hplic : t.plic = s.plic.completeId d.toNat)
    (htrace : t.trace = s.trace ++ [.write s.params.map.claim d]) : MovedBySeq s t src := by
  obtain ⟨-, hip, -, -⟩ := completeId_rest s.plic d.toNat
  have hsvc := completeId_insvc s.plic d.toNat src
  rw [← hplic] at hip hsvc
  by_cases hreleased : Src.id src = d.toNat ∧ s.plic.insvc[src] = true
  · obtain ⟨hid, hserved⟩ := hreleased
    have hidle := hok src hserved
    rw [if_pos hid] at hsvc
    exact .inr (.inr ⟨hidle, hserved, by rw [hip, hidle], hsvc, d, hid.symm, htrace⟩)
  · refine .inl ⟨by rw [hip], hsvc.trans (ite_eq_right_iff.2 fun hid => ?_)⟩
    exact (Bool.eq_false_iff.2 fun h => hreleased ⟨hid, h⟩).symm

theorem movedBySeq_accessEffect {i : Instr} (he : AccessEffect s i t) : MovedBySeq s t src := by
  cases he with
  | claim => exact movedBySeq_claim hok src rfl rfl
  | complete data => exact movedBySeq_complete hok src rfl rfl
  | txdata data =>
    obtain ⟨-, -, hplic, -, -, -⟩ := pushByte_rest s (data.extractLsb' 0 8)
    exact .inl (.of_eq hplic src)
  | read | write | plicConfig | uartConfig | vector | status | enables => exact .inl ⟨rfl, rfl⟩

theorem movedBySeq_seqEffect (he : SeqEffect s t) : MovedBySeq s t src := by
  cases he with
  | foreground m rest i v u idle todo instr access =>
    have hmoved := movedBySeq_accessEffect (s := s.start rest) hok src access
    exact hmoved
  | claim phase => exact movedBySeq_claim hok src rfl rfl
  | complete phase => exact movedBySeq_complete hok src rfl rfl
  | decode _ phase effect => cases effect <;> exact .inl ⟨rfl, rfl⟩
  | readIp phase =>
    obtain ⟨ipq, bn, bi, ph, hs⟩ := afterReadIp_eq_setSeq (s.memRead .uartIp _)
    rw [hs]
    exact .inl ⟨rfl, rfl⟩
  | push b phase more byte =>
    obtain ⟨-, -, hplic, -, -, -⟩ := pushByte_rest s b
    exact .inl (.of_eq hplic src)
  | stays | stackPointer | finish | rxCount | ret => exact .inl ⟨rfl, rfl⟩

end Moves

/-- The gateway moves its own source from idle to pending, and no other source (R176, R199). -/
theorem latch_moves {s : State} {w : Src} (hgw : gatewayEnabled s w = true) (src : Src) :
    SourceKept s.plic (s.plic.latch w) src ∨
      (s.plic.ip[src] = false ∧ s.plic.insvc[src] = false ∧ (s.plic.latch w).ip[src] = true ∧
        (s.plic.latch w).insvc[src] = false ∧ w = src ∧ lineOf s src = true) := by
  have hip := latch_ip s.plic w src
  by_cases hw : w = src
  · subst hw
    obtain ⟨hline, hidle, hsvc⟩ := gatewayEnabled_iff.1 hgw
    rw [if_pos rfl] at hip
    exact .inr ⟨hidle, hsvc, hip, hsvc, rfl, hline⟩
  · rw [if_neg hw] at hip
    exact .inl ⟨hip, rfl⟩

/-- Settles O53: only SEQ and the gateways touch the pending and in-service bits. -/
theorem sourceStateMachine : Obligations.SourceStateMachine := by
  intro s t e src hok hreset hstep
  cases agentStep_effect hstep with
  | seq _ running effect =>
    obtain hkept | ⟨hip, hsvc, hip', hsvc', hwinner, htrace⟩ | ⟨hip, hsvc, hip', hsvc', hid⟩ :=
      movedBySeq_seqEffect hok src effect
    · exact .inl hkept
    · exact .inr (.inr (.inl ⟨hip, hsvc, hip', hsvc', rfl, hwinner, htrace⟩))
    · exact .inr (.inr (.inr ⟨hip, hsvc, hip', hsvc', rfl, hid⟩))
  | latch w enabled =>
    obtain hkept | ⟨hip, hsvc, hip', hsvc', rfl, hline⟩ := latch_moves enabled src
    · exact .inl hkept
    · exact .inr (.inl ⟨hip, hsvc, hip', hsvc', rfl, hline⟩)
  | reset u => exact absurd rfl (hreset u)
  | stays | command | badLevel | send | line | rxwm | nested | entry | corePc => exact .inl ⟨rfl, rfl⟩

end Sys2Proof.Proofs
end

section
/-! The words of the UART0 registers bit by bit (R101 to R103), the source line (R237), the accesses of `enable_txwm`
(R251), the pushes of a refill and its run as one operation (R245 to R247), the cursor over many refills (R248), and the
room of a refill (R249). -/

namespace Sys2Proof.Machine

open Sys2Proof.Safety Sys2Proof.Claims

/-! ## Register words -/

theorem bitWord_getLsbD (b : Bool) (i : Nat) : (bitWord b).getLsbD i = (decide (i = 0) && b) := by
  cases b <;> simp [bitWord]

/-- A one-bit field of a register stands at its own position only. -/
theorem bitWord_shiftLeft_getLsbD (b : Bool) {n : Nat} (hn : n < 32) (i : Nat) :
    (bitWord b <<< n).getLsbD i = (decide (i = n) && b) := by
  rw [BitVec.getLsbD_shiftLeft, bitWord_getLsbD, ← Bool.and_assoc]
  congr 1
  rw [Bool.eq_iff_iff]
  simp only [Bool.and_eq_true, Bool.not_eq_true', decide_eq_true_eq, decide_eq_false_iff_not]
  omega

/-- `UART0_TXDATA` shows the full flag in bit 31 and nothing else (R101, R234). -/
theorem txdataWord_txFull (p : Params) (u : UartState) :
    txdataWord (txFull p u) = if u.txfifo.length = p.txDepth then 0x80000000#32 else 0x00000000#32 := by
  unfold txFull
  split_ifs with h
  · rw [decide_eq_true h]
    rfl
  · rw [decide_eq_false h]
    rfl

/-- `UART0_IP` and `UART0_IE` hold the transmit side in bit 0, the receive side in bit 1, and 0 elsewhere (R102). -/
theorem watermarkWord_bits (rx tx : Bool) :
    (watermarkWord rx tx).getLsbD 0 = tx ∧ (watermarkWord rx tx).getLsbD 1 = rx ∧
      ∀ b, 2 ≤ b → (watermarkWord rx tx).getLsbD b = false := by
  have hbit (i : Nat) : (watermarkWord rx tx).getLsbD i = (decide (i = 1) && rx || decide (i = 0) && tx) := by
    rw [watermarkWord, BitVec.getLsbD_or, bitWord_shiftLeft_getLsbD rx (by omega), bitWord_getLsbD]
  refine ⟨(hbit 0).trans (by simp), (hbit 1).trans (by simp), fun b hb => ?_⟩
  simp [hbit, show b ≠ 0 by omega, show b ≠ 1 by omega]

/-- The watermark level stands in bits [18:16] (R103). -/
theorem levelField_getLsbD (level : BitVec 3) (i : Nat) :
    (level.setWidth 32 <<< 16).getLsbD i = (decide (16 ≤ i ∧ i < 19) && level.getLsbD (i - 16)) := by
  rw [BitVec.getLsbD_shiftLeft, BitVec.getLsbD_setWidth, ← Bool.and_assoc]
  by_cases hi : i - 16 < 3
  · congr 1
    rw [Bool.eq_iff_iff]
    simp only [Bool.and_eq_true, Bool.not_eq_true', decide_eq_true_eq, decide_eq_false_iff_not]
    omega
  · rw [BitVec.getLsbD_of_ge _ _ (by omega), Bool.and_false, Bool.and_false]

theorem txctrlWord_getLsbD (u : UartState) (i : Nat) :
    (txctrlWord u).getLsbD i =
      (decide (16 ≤ i ∧ i < 19) && u.txcnt.getLsbD (i - 16) || decide (i = 1) && u.nstop ||
        decide (i = 0) && u.txen) := by
  rw [txctrlWord, BitVec.getLsbD_or, BitVec.getLsbD_or, levelField_getLsbD, bitWord_shiftLeft_getLsbD _ (by omega),
    bitWord_getLsbD]

/-- `UART0_TXCTRL` holds its three fields at their positions, and 0 elsewhere (R103). -/
theorem txctrlWord_bits (u : UartState) :
    (txctrlWord u).getLsbD 0 = u.txen ∧ (txctrlWord u).getLsbD 1 = u.nstop ∧
      (txctrlWord u).extractLsb' 16 3 = u.txcnt ∧
      ∀ b, (2 ≤ b ∧ b < 16) ∨ 19 ≤ b → (txctrlWord u).getLsbD b = false := by
  refine ⟨(txctrlWord_getLsbD u 0).trans (by simp), (txctrlWord_getLsbD u 1).trans (by simp), ?_, fun b hb => ?_⟩
  · refine BitVec.eq_of_getLsbD_eq fun i hi => ?_
    have hposition : 16 ≤ 16 + i ∧ 16 + i < 19 := by omega
    simp [txctrlWord_getLsbD, hi, hposition, show 16 + i ≠ 1 by omega]
  · simp [txctrlWord_getLsbD, show ¬(16 ≤ b ∧ b < 19) by omega, show b ≠ 0 by omega, show b ≠ 1 by omega]

/-! ## Watermarks and the source line -/

theorem ipTxwm_iff {u : UartState} : ipTxwm u = true ↔ u.txfifo.length < u.txcnt.toNat := decide_eq_true_iff

theorem ipTxwm_eq_false_iff {u : UartState} : ipTxwm u = false ↔ u.txcnt.toNat ≤ u.txfifo.length := by
  rw [ipTxwm, decide_eq_false_iff_not, Nat.not_lt]

/-- UART0's line is raised by an enabled watermark condition (R237). -/
theorem lineOf_uart0_iff {s : State} :
    lineOf s s.params.src.uart0 = true ↔
      (s.uart.txfifo.length < s.uart.txcnt.toNat ∧ s.uart.ieTxwm = true) ∨
        (s.inputs.rxwm = true ∧ s.uart.ieRxwm = true) := by
  simp [lineOf, uartLine, ipTxwm_iff, ipRxwm]

/-! ## The transmit data register -/

/-- A write of `UART0_TXDATA` to a FIFO with room queues its byte (R233). -/
theorem pushByte_of_room {s : State} (h : s.uart.txfifo.length < s.params.txDepth) (b : Byte) :
    s.pushByte b = s.setUart { s.uart with txfifo := s.uart.txfifo ++ [b] } := if_pos h

/-- A write to a full FIFO drops its byte and sets the sticky flag (R238). -/
theorem pushByte_of_full {s : State} (h : s.params.txDepth ≤ s.uart.txfifo.length) (b : Byte) :
    s.pushByte b = s.setSeq { s.seq with txOverrun := true } := if_neg (Nat.not_lt.2 h)

theorem exec_uart0TxdataW {s : State} (hrun : s.seq.halted = false) (data : Word) :
    exec (.uart0TxdataW data) s = .next ((s.pushByte (data.extractLsb' 0 8)).memWrite .txdata data) :=
  issue_of_running hrun

/-! ## The pushes of a refill -/

/-- A push with room queues its byte, counts it and traces its write (R245). -/
theorem pushed_of_room {s : State} (h : s.uart.txfifo.length < s.params.txDepth) (b : Byte) :
    pushed b s =
      { s with
        uart := { s.uart with txfifo := s.uart.txfifo ++ [b] }
        seq := { s.seq with bi := s.seq.bi + 1 }
        trace := s.trace ++ [.write s.params.map.txdata (b.setWidth 32)] } := by
  rw [pushed, pushByte_of_room h]
  rfl

/-- A push into a full FIFO is counted and traced all the same (R238, R245). -/
theorem pushed_of_full {s : State} (h : s.params.txDepth ≤ s.uart.txfifo.length) (b : Byte) :
    pushed b s =
      { s with
        seq := { s.seq with bi := s.seq.bi + 1, txOverrun := true }
        trace := s.trace ++ [.write s.params.map.txdata (b.setWidth 32)] } := by
  rw [pushed, pushByte_of_full h]
  rfl

/-- A push past the end of the message is the fault of R74. -/
theorem seqStep_push_out_of_range {s : State} (hrun : s.seq.halted = false) (hphase : s.seq.phase = .refill)
    (hmore : s.seq.bi < s.seq.bn) (hend : s.params.msg.length ≤ s.engine.cursor + s.seq.bi) :
    seqStep s = .fault .messageIndexOutOfRange := by
  simp [seqStep, hrun, hphase, refillStep, hmore, List.getElem?_eq_none hend]

/-! ## The command enable_txwm -/

theorem requestStep_enableTxwm {s : State} (h : Ready s) :
    requestStep .enableTxwm s = .next (s.start [.op .uart0IeR, .writeOr .uartIe 1#32]) := by
  simp only [requestStep, requestStep_guard_of_ready h, Bool.false_eq_true, if_false]

theorem exec_uart0IeR {s : State} (hrun : s.seq.halted = false) :
    exec .uart0IeR s = .next (s.memRead .uartIe (watermarkWord s.uart.ieRxwm s.uart.ieTxwm)) := issue_of_running hrun

theorem exec_uart0IeW {s : State} (hrun : s.seq.halted = false) (data : Word) :
    exec (.uart0IeW data) s =
      .next ((s.setUart { s.uart with ieTxwm := data.getLsbD 0, ieRxwm := data.getLsbD 1 }).memWrite .uartIe data) :=
  issue_of_running hrun

/-- Setting bit 0 of the word `UART0_IE` returned enables the transmit side and keeps the receive side (R251). -/
theorem watermarkWord_or_one_bits (rx tx : Bool) :
    (watermarkWord rx tx ||| 1#32).getLsbD 0 = true ∧ (watermarkWord rx tx ||| 1#32).getLsbD 1 = rx := by
  obtain ⟨-, hrx, -⟩ := watermarkWord_bits rx tx
  rw [BitVec.getLsbD_or, BitVec.getLsbD_or, hrx]
  simp

end Sys2Proof.Machine

namespace Sys2Proof.Safety

open Sys2Proof.Machine Sys2Proof.Claims

/-! ## A refill with room, as one operation -/

/-- The state after the rest of a refill whose bytes all have room (R247). -/
def refillDone (s : State) : State :=
  { s with
    uart := { s.uart with txfifo := s.uart.txfifo ++ refillBytes s }
    engine := { s.engine with cursor := cursorNext s.params s.engine.cursor }
    seq := { s.seq with bi := s.seq.bn, phase := .complete }
    trace := s.trace ++ (refillBytes s).map (txWrite s.params) }

/-- With no byte left to push the finish step is all (R246). -/
theorem refillDone_of_done {s : State} (hdone : s.seq.bi = s.seq.bn) : refillDone s = refillFinish s := by
  have hbytes : refillBytes s = [] := by simp [refillBytes, hdone]
  simp [refillDone, refillFinish, State.setPhase, State.setSeq, State.setEngine, hbytes, hdone]

/-- A push with room does the first part of what is left (R245). -/
theorem refillDone_pushed {s : State} (hmore : s.seq.bi < s.seq.bn) (hroom : s.uart.txfifo.length < s.params.txDepth)
    {b : Byte} (hb : s.params.msg[s.engine.cursor + s.seq.bi]? = some b) : refillDone (pushed b s) = refillDone s := by
  simp only [refillDone, refillBytes_of_more hmore hb]
  rw [pushed_of_room hroom]
  simp [txWrite]

/-- Bytes that are in the message and have room in the FIFO are pushed one a step, and the finish follows (R247). -/
theorem seqRun_refill {s : State} (hrun : s.seq.halted = false) (hphase : s.seq.phase = .refill)
    (hbi : s.seq.bi ≤ s.seq.bn) (hfit : s.engine.cursor + s.seq.bn ≤ s.params.msg.length)
    (hroom : s.uart.txfifo.length + (s.seq.bn - s.seq.bi) ≤ s.params.txDepth) :
    seqRun (s.seq.bn - s.seq.bi + 1) s = .next (refillDone s) := by
  obtain ⟨n, hn⟩ : ∃ n, s.seq.bn - s.seq.bi = n := ⟨_, rfl⟩
  induction n generalizing s with
  | zero =>
    have hdone : s.seq.bi = s.seq.bn := by omega
    rw [hn, seqRun_succ (seqStep_finish hrun hphase (by omega)), refillDone_of_done hdone, seqRun]
  | succ n ih =>
    have hmore : s.seq.bi < s.seq.bn := by omega
    have hfree : s.uart.txfifo.length < s.params.txDepth := by omega
    obtain ⟨b, hb⟩ := exists_byte hfit hmore
    have hleft : (pushed b s).seq.bn - (pushed b s).seq.bi = n := by
      rw [pushed_seq]
      dsimp only
      omega
    have hroom' : (pushed b s).uart.txfifo.length + ((pushed b s).seq.bn - (pushed b s).seq.bi) ≤ s.params.txDepth := by
      rw [hleft, pushed_of_room hfree]
      simp only [List.length_append, List.length_singleton]
      omega
    have hrest := ih (s := pushed b s) (by simpa using hrun) (by simpa using hphase) (by simpa using hmore)
      (by simpa using hfit) (by simpa using hroom') hleft
    rw [hn, seqRun_succ (seqStep_push hrun hphase hmore hb), ← refillDone_pushed hmore hfree hb, ← hrest, hleft]

/-- At the start of a refill the bytes left are those of its burst (R244). -/
theorem refillBytes_of_start {s : State} (hbi : s.seq.bi = 0)
    (hbn : s.seq.bn = burstLength s.params s.engine.cursor) : refillBytes s = burstBytes s := by
  rw [refillBytes, burstBytes, hbi, hbn, Nat.add_zero, Nat.sub_zero]

/-! ## The cursor over many refills -/

/-- A well-formed burst pushes at least one byte (R7(b)). -/
theorem burst_pos_of_wf {p : Params} (hp : p.wf = true) : 0 < p.burst := by
  simp only [Params.wf, Bool.and_eq_true, decide_eq_true_eq] at hp
  obtain ⟨⟨⟨⟨-, hburst⟩, -⟩, -⟩, -⟩ := hp
  exact hburst

/-- The number of refills over a message is above `k` exactly when `k` bursts do not reach its end. -/
theorem lt_refills_iff {p : Params} (hburst : 0 < p.burst) (k : Nat) :
    k < (p.msg.length + p.burst - 1) / p.burst ↔ k * p.burst < p.msg.length := by
  rw [← Nat.ceilDiv_eq_add_pred_div, ← Nat.not_le, ceilDiv_le_iff_le_mul hburst, Nat.not_le, Nat.mul_comm]

/-- The refills advance the cursor by `B` each while they stay inside the message (R246). -/
theorem cursorNext_iterate {p : Params} (hburst : 0 < p.burst) {k : Nat} (hk : k * p.burst < p.msg.length) :
    (cursorNext p)^[k] 0 = k * p.burst := by
  induction k with
  | zero => simp
  | succ k ih =>
    rw [Nat.succ_mul] at hk ⊢
    rw [Function.iterate_succ_apply', ih (by omega), cursorNext, if_pos hk]

/-! ## Room for the rest of a refill -/

/-- A state outside phase REFILL has no refill to fit. -/
theorem refillFits_of_phase {s : State} (h : s.seq.phase ≠ .refill) : RefillFits s := fun hp => absurd hp h

/-- While bytes are left to push there is room for the next one (R249). -/
theorem room_of_refillFits {s : State} (h : RefillFits s) (hphase : s.seq.phase = .refill) (hmore : s.seq.bi < s.seq.bn) :
    s.uart.txfifo.length < s.params.txDepth := by
  have := h hphase
  omega

/-- A push uses the room of its own byte. -/
theorem refillFits_pushed {s : State} (h : RefillFits s) (hphase : s.seq.phase = .refill)
    (hmore : s.seq.bi < s.seq.bn) (b : Byte) : RefillFits (pushed b s) := by
  have hfits := h hphase
  rw [pushed_of_room (room_of_refillFits h hphase hmore)]
  intro _
  simp only [List.length_append, List.length_singleton]
  omega

/-- A refill starts below the watermark only, where the constraint leaves room for a whole burst (R232, R249). -/
theorem refillFits_afterReadIp {s : State} (h : watermarkFits s) :
    RefillFits (afterReadIp (s.memRead .uartIp (ipWord s))) := by
  rw [afterReadIp_ipWord]
  split_ifs with htx
  · obtain ⟨-, hdepth⟩ := h
    have hburst : burstLength s.params s.engine.cursor ≤ s.params.burst := Nat.min_le_left _ _
    intro _
    change s.uart.txfifo.length + (burstLength s.params s.engine.cursor - 0) ≤ s.params.txDepth
    omega
  · exact refillFits_of_phase nofun
  · exact refillFits_of_phase nofun

/-- A register access leaves the phase. -/
theorem phase_accessEffect {s t : State} {i : Instr} (he : AccessEffect s i t) : t.seq.phase = s.seq.phase := by
  cases he with
  | txdata data => simp [pushByte_seq]
  | read | write | plicConfig | claim | complete | uartConfig | vector | status | enables => rfl

/-- Step DECODE never leads to a refill at once (R121). -/
theorem phase_causeEffect_ne_refill {s t : State} (hphase : s.seq.phase = .decode) (he : CauseEffect s t) :
    t.seq.phase ≠ .refill := by
  cases he with
  | halt r => simp [hphase]
  | ret | claim => exact nofun

/-- Step CLAIM never leads to a refill at once (R154). -/
theorem phase_afterClaim_ne_refill (s : State) : (afterClaim s).seq.phase ≠ .refill := by
  simp only [afterClaim, State.setSeq_seq]
  split_ifs <;> exact nofun

theorem refillFits_seqEffect {s t : State} (hw : watermarkFits s) (h : RefillFits s) (he : SeqEffect s t) :
    RefillFits t := by
  cases he with
  | stays => exact h
  | stackPointer rest idle todo => exact refillFits_of_phase (by simp [idle])
  | foreground m rest i v u idle todo instr access =>
    have hidle : u.seq.phase = .idle := (phase_accessEffect access).trans idle
    exact refillFits_of_phase (by simp [hidle])
  | decode _ phase effect => exact refillFits_of_phase (phase_causeEffect_ne_refill phase effect)
  | claim phase => exact refillFits_of_phase (phase_afterClaim_ne_refill _)
  | readIp phase => exact refillFits_afterReadIp hw
  | push b phase more byte => exact refillFits_pushed h phase more b
  | finish | rxCount | complete | ret => exact refillFits_of_phase nofun

/-- Every event keeps the room for the rest of a refill (R249). -/
theorem refillFits_eventEffect {s t : State} {e : Event} (hw : watermarkFits s) (h : RefillFits s)
    (he : EventEffect s e t) : RefillFits t := by
  cases he with
  | seq _ running effect => exact refillFits_seqEffect hw h effect
  | send b rest txen queued =>
    intro hphase
    have hfits := h hphase
    rw [queued, List.length_cons] at hfits
    exact (Nat.add_le_add_right (Nat.le_succ _) _).trans hfits
  | entry | reset => exact refillFits_of_phase nofun
  | stays | command | badLevel | latch | line | rxwm | nested | corePc => exact h

/-- Taking an event leaves the FIFO, the watermark and the depth. -/
theorem watermarkFits_takeEvent {s : State} (h : watermarkFits s) : watermarkFits (takeEvent s) := by
  obtain ⟨rest, hs⟩ | hs := takeEvent_cases s <;> rw [hs] <;> exact h

theorem refillFits_takeEvent {s : State} (h : RefillFits s) : RefillFits (takeEvent s) := by
  obtain ⟨rest, hs⟩ | hs := takeEvent_cases s <;> rw [hs] <;> exact h

/-- In the handler the one write of the transmit-data register is a push, and a push with room does not overrun. -/
theorem txOverrun_seqEffect {s t : State} (h : RefillFits s) (hphase : s.seq.phase ≠ .idle) (he : SeqEffect s t) :
    t.seq.txOverrun = s.seq.txOverrun := by
  cases he with
  | stackPointer rest idle | foreground m rest i v u idle => exact absurd idle hphase
  | decode _ phase effect => cases effect <;> rfl
  | readIp phase =>
    obtain ⟨ipq, bn, bi, ph, hs⟩ := afterReadIp_eq_setSeq (s.memRead .uartIp _)
    rw [hs]
    rfl
  | push b phase more byte =>
    change (pushed b s).seq.txOverrun = _
    rw [pushed_of_room (room_of_refillFits h phase more)]
  | stays | claim | finish | rxCount | complete | ret => rfl

/-- Outside the foreground no event sets the overrun flag (R249). -/
theorem txOverrun_eventEffect {s t : State} {e : Event} (h : RefillFits s) (hphase : s.seq.phase ≠ .idle)
    (he : EventEffect s e t) (hset : t.seq.txOverrun = true) : s.seq.txOverrun = true := by
  cases he with
  | seq _ running effect => exact txOverrun_seqEffect h hphase effect ▸ hset
  | reset u => cases hset
  | stays | command | badLevel | latch | send | line | rxwm | nested | entry | corePc => exact hset

end Sys2Proof.Safety
end

section
/-! The statements of the UART family: the rows of the register map, the source line, the serializer, the refill with its
cursor and its room, and the `enable_txwm` command. -/

namespace Sys2Proof.Proofs

open Sys2Proof.Machine Sys2Proof.Safety Sys2Proof.Claims

/-! ## The refill -/

/-- Settles O34: the event happens in the state that has taken it, which has the same room. -/
theorem handlerNeverOverruns : Obligations.HandlerNeverOverruns := by
  intro s t hw hfits hstep
  obtain ⟨-, hseq, -, -⟩ := takeEvent_rest s
  have heffect : EventEffect (takeEvent s) (nextEvent s) t := agentStep_effect hstep
  have hfits' := refillFits_takeEvent hfits
  refine ⟨refillFits_eventEffect (watermarkFits_takeEvent hw) hfits' heffect, fun hphase => ?_⟩
  rw [← hseq] at hphase ⊢
  exact txOverrun_eventEffect hfits' hphase heffect

/-- Settles O30. -/
theorem refillPhasePushesThenFinishes : Obligations.RefillPhasePushesThenFinishes := by
  refine fun s hrun hphase => ⟨fun hmore b hb hroom => ?_, fun hmore b hb hfull => ?_,
    seqStep_push_out_of_range hrun hphase, fun hdone => seqStep_finish hrun hphase (Nat.not_lt.2 hdone)⟩
  · rw [seqStep_push hrun hphase hmore hb, pushed_of_room hroom]
  · rw [seqStep_push hrun hphase hmore hb, pushed_of_full hfull]

/-- Settles O31: the invariant ties the burst to the cursor and puts it inside the message. -/
theorem refillRunsAsOneOperation : Obligations.RefillRunsAsOneOperation := by
  intro s hinv hrun hphase hbi hroom
  obtain ⟨hbn, hle⟩ := hinv.burst hphase
  obtain ⟨-, hfit⟩ := hinv.burst_bounds hphase
  have hrefill := seqRun_refill hrun hphase hle hfit (by omega)
  rw [hbi, Nat.sub_zero, refillDone, refillBytes_of_start hbi hbn] at hrefill
  exact hrefill

/-- Settles O35: the last of `ceil(L/B)` refills is the first to reach the end of the message. -/
theorem cursorReturnsAfterCeilingOfCalls : Obligations.CursorReturnsAfterCeilingOfCalls := by
  intro p hp
  have hburst := burst_pos_of_wf hp
  have hmsg := msg_pos_of_wf hp
  constructor
  · obtain ⟨k, hk⟩ : ∃ k, (p.msg.length + p.burst - 1) / p.burst = k + 1 :=
      Nat.exists_eq_add_one.2 ((lt_refills_iff hburst 0).2 (by omega))
    have hinside : k * p.burst < p.msg.length := (lt_refills_iff hburst k).1 (by omega)
    have hend : ¬(k + 1) * p.burst < p.msg.length := fun h => by
      have := (lt_refills_iff hburst (k + 1)).2 h
      omega
    rw [Nat.succ_mul] at hend
    rw [hk, Function.iterate_succ_apply', cursorNext_iterate hburst hinside, cursorNext, if_neg hend]
  · intro k hpos hk
    rw [cursorNext_iterate hburst ((lt_refills_iff hburst k).1 hk)]
    exact ⟨rfl, (Nat.mul_pos hpos hburst).ne'⟩

/-! ## The command -/

/-- Settles O41: the read-modify-write of `UART0_IE` with bit 0 set. -/
theorem enableTxwmSetsOneBit : Obligations.EnableTxwmSetsOneBit := by
  intro s hready
  have ⟨hrun, _, _⟩ := hready
  have hread := exec_uart0IeR (s := s.start [.writeOr .uartIe 1#32]) hrun
  have hwrite := exec_uart0IeW (s := afterRmwRead .uartIe (watermarkWord s.uart.ieRxwm s.uart.ieTxwm) s) hrun
    (watermarkWord s.uart.ieRxwm s.uart.ieTxwm ||| 1#32)
  have hrmw := seqRun_rmw (r := .uartIe) hready hread (fun u hu => by rw [microInstr, hu]; rfl) hwrite
  obtain ⟨htx, hrx⟩ := watermarkWord_or_one_bits s.uart.ieRxwm s.uart.ieTxwm
  refine ⟨_, _, watermarkWord s.uart.ieRxwm s.uart.ieTxwm, requestStep_enableTxwm hready, hrmw, ?_, ?_, rfl,
    rfl, rfl, rfl⟩
  · rw [htx, hrx]
    rfl
  · simp [afterRmwRead, AddrMap.addr]

/-! ## The registers -/

/-- Settles O16. -/
theorem txdataQueuesOrOverrunsAndReadsFull : Obligations.TxdataQueuesOrOverrunsAndReadsFull := by
  refine ⟨readRow_of_issue (inRange_of_fixed rfl) rfl fun s => ?read,
    fun p data hm => decodeMmio_write hm (r := .txdata) (inRange_of_fixed rfl) data,
    fun s data hrun => ⟨fun hroom => ?queue, fun hfull => ?overrun⟩⟩
  case read =>
    rw [← txdataWord_txFull]
    rfl
  case queue =>
    rw [exec_uart0TxdataW hrun, pushByte_of_room hroom]
    rfl
  case overrun =>
    rw [exec_uart0TxdataW hrun, pushByte_of_full hfull.ge]
    rfl

/-- Settles O17: the line is a function of the state that the write leaves. -/
theorem watermarkRegistersReadAndWrite : Obligations.WatermarkRegistersReadAndWrite := by
  refine ⟨⟨_, readRow_of_issue (inRange_of_fixed rfl) rfl fun _ => rfl, fun s => watermarkWord_bits _ _⟩,
    writeRow_of_issue (inRange_of_fixed rfl) (fun _ => rfl) fun _ _ => rfl,
    ⟨_, readRow_of_issue (inRange_of_fixed rfl) rfl fun _ => rfl, fun s => watermarkWord_bits _ _⟩,
    writeRow_of_issue (inRange_of_fixed rfl) (fun _ => rfl) fun _ _ => rfl, fun s t data hexec hbit hbelow => ?_⟩
  obtain ⟨-, rfl⟩ := issue_next_iff.1 hexec
  exact lineOf_uart0_iff.2 (.inl ⟨hbelow, hbit⟩)

/-- Settles O18. -/
theorem txctrlReadsAndWrites : Obligations.TxctrlReadsAndWrites :=
  ⟨⟨_, readRow_of_issue (inRange_of_fixed rfl) rfl fun _ => rfl, fun s => txctrlWord_bits s.uart⟩,
    writeRow_of_issue (inRange_of_fixed rfl) (fun _ => rfl) fun _ _ => rfl⟩

/-! ## The source line and the serializer -/

/-- Settles O19. -/
theorem uartLineFollowsWatermarks : Obligations.UartLineFollowsWatermarks := by
  refine fun s => ⟨lineOf_uart0_iff, ipTxwm_iff, rfl, fun hzero => ?_, fun hempty hlevel => ?_⟩
  · rw [ipTxwm_eq_false_iff, hzero]
    exact Nat.zero_le _
  · rw [ipTxwm_iff, hempty]
    exact hlevel

/-- Settles O45: the serializer step looks at the UART alone. -/
theorem serializerSendsOldestByte : Obligations.SerializerSendsOldestByte := by
  refine fun s => ⟨fun b rest htxen hqueued => ?_, fun hidle => ?_⟩
  · obtain ⟨b', rest', -, hqueued', hs⟩ | ⟨hoff, -⟩ := serializerStep_cases s
    · obtain ⟨rfl, rfl⟩ : b = b' ∧ rest = rest' := by simpa using hqueued.symm.trans hqueued'
      exact congrArg _ hs
    · simp [serializerEnabled, htxen, hqueued] at hoff
  · obtain ⟨b, rest, htxen, hqueued, -⟩ | ⟨-, hs⟩ := serializerStep_cases s
    · simp [htxen, hqueued] at hidle
    · exact congrArg _ hs

end Sys2Proof.Proofs
end

section
/-! The operations of the control registers (43_trap_vector_install.md section 2), the read-modify-write of one of them,
the six steps of the installer (R270), the boot order on the trace (R275), and what keeps an installed vector (R281). -/

namespace Sys2Proof.Machine

open Sys2Proof.Safety Sys2Proof.Claims

/-! ## Control-register words -/

/-- A trap vector with bits [1:0] clear is a multiple of 4 (R106). -/
theorem vectorAligned_iff {data : Word} : vectorAligned data = true ↔ data.toNat % 4 = 0 := by
  rw [vectorAligned, beq_iff_eq, BitVec.toNat_eq]
  simp

/-- A write that returns every bit outside the mask as held is stored exactly (R105). -/
theorem mergeCore_of_bits {mask held data : Word} (free : Word)
    (h : ∀ b, mask.getLsbD b = false → data.getLsbD b = held.getLsbD b) : mergeCore mask held data free = data := by
  refine mergeCore_keeps mask held data free (BitVec.eq_of_getLsbD_eq fun b _ => ?_)
  rw [BitVec.getLsbD_and, BitVec.getLsbD_and, BitVec.getLsbD_not]
  cases hb : mask.getLsbD b with
  | true => simp
  | false => rw [h b hb]

/-- Setting bits of the block in the word held keeps the others, so it is stored exactly (R110, R273, R274). -/
theorem mergeCore_or {mask bits : Word} (held free : Word) (h : bits &&& mask = bits) :
    mergeCore mask held (held ||| bits) free = held ||| bits := by
  refine mergeCore_of_bits free fun b hb => ?_
  rw [← h, BitVec.getLsbD_or, BitVec.getLsbD_and, hb, Bool.and_false, Bool.or_false]

/-- A bit outside the status mask is neither MIE nor MPIE, and one outside the enable mask none of the three (R105). -/
theorem ne_of_not_statusMask {b : Nat} (h : statusMask.getLsbD b = false) : b ≠ 3 ∧ b ≠ 7 := by
  constructor <;> rintro rfl <;> revert h <;> decide

theorem ne_of_not_ieMask {b : Nat} (h : ieMask.getLsbD b = false) : b ≠ 3 ∧ b ≠ 7 ∧ b ≠ 11 := by
  refine ⟨?_, ?_, ?_⟩ <;> rintro rfl <;> revert h <;> decide

section Operations

variable {s : State}

/-! ## The operations -/

theorem exec_csrCauseR (hrun : s.seq.halted = false) : exec .csrCauseR s = .next (s.csrRead .cause s.core.cause) :=
  issue_of_running hrun

theorem exec_csrStatusR (hrun : s.seq.halted = false) :
    exec .csrStatusR s = .next (s.csrRead .status s.core.status.toNat) := issue_of_running hrun

theorem exec_csrIeR (hrun : s.seq.halted = false) : exec .csrIeR s = .next (s.csrRead .ie s.core.ie.toNat) :=
  issue_of_running hrun

/-- The state after a write of an aligned trap vector (R271). -/
def vectorWritten (data : Word) (s : State) : State :=
  (s.setCore { s.core with tvec := data, tvecInstalled := true }).csrWrite .tvec data

theorem exec_csrTvecW_of_aligned (hrun : s.seq.halted = false) {data : Word} (h : data.toNat % 4 = 0) :
    exec (.csrTvecW data) s = .next (vectorWritten data s) := by
  rw [exec, execCsrTvecW, if_pos (vectorAligned_iff.2 h), issue_of_running hrun]
  rfl

theorem exec_csrTvecW_of_misaligned {data : Word} (h : data.toNat % 4 ≠ 0) :
    exec (.csrTvecW data) s = .refused .badVector := by
  rw [exec, execCsrTvecW, if_neg (mt vectorAligned_iff.1 h)]

/-- The state after a write of `data` to a control register, with the fields of the core that the write leaves (R277,
R279). -/
def csrWritten (c : Csr) (data : Word) (core : CoreState) (s : State) : State :=
  ((s.setCore core).csrWrite c data).drawn

@[simp] theorem csrWritten_core (c : Csr) (data : Word) (core : CoreState) (s : State) :
    (csrWritten c data core s).core = core := rfl
@[simp] theorem csrWritten_params (c : Csr) (data : Word) (core : CoreState) (s : State) :
    (csrWritten c data core s).params = s.params := rfl
@[simp] theorem csrWritten_plic (c : Csr) (data : Word) (core : CoreState) (s : State) :
    (csrWritten c data core s).plic = s.plic := rfl
@[simp] theorem csrWritten_uart (c : Csr) (data : Word) (core : CoreState) (s : State) :
    (csrWritten c data core s).uart = s.uart := rfl
@[simp] theorem csrWritten_fg (c : Csr) (data : Word) (core : CoreState) (s : State) :
    (csrWritten c data core s).fg = s.fg := rfl
@[simp] theorem csrWritten_trace (c : Csr) (data : Word) (core : CoreState) (s : State) :
    (csrWritten c data core s).trace = s.trace ++ [.csrWrite (s.params.csr.num c) data] := rfl

theorem exec_csrStatusW (hrun : s.seq.halted = false) (data : Word) :
    exec (.csrStatusW data) s =
      .next (csrWritten .status data
        { s.core with status := mergeCore statusMask s.core.status data (Config.coreStatusBits s.draws) } s) :=
  issue_of_running hrun

theorem exec_csrIeW (hrun : s.seq.halted = false) (data : Word) :
    exec (.csrIeW data) s =
      .next (csrWritten .ie data
        { s.core with ie := mergeCore ieMask s.core.ie data (Config.coreIeBits s.draws) } s) :=
  issue_of_running hrun

theorem exec_csrStatusW_or (hrun : s.seq.halted = false) {bits : Word} (h : bits &&& statusMask = bits) :
    exec (.csrStatusW (s.core.status ||| bits)) s =
      .next (csrWritten .status (s.core.status ||| bits) { s.core with status := s.core.status ||| bits } s) := by
  rw [exec_csrStatusW hrun, mergeCore_or _ _ h]

theorem exec_csrIeW_or (hrun : s.seq.halted = false) {bits : Word} (h : bits &&& ieMask = bits) :
    exec (.csrIeW (s.core.ie ||| bits)) s =
      .next (csrWritten .ie (s.core.ie ||| bits) { s.core with ie := s.core.ie ||| bits } s) := by
  rw [exec_csrIeW hrun, mergeCore_or _ _ h]

/-! ## The read-modify-write of a control register -/

/-- A read of the foreground keeps its word, and a write keeps nothing (R110). -/
theorem latchRead_rmwRead (r : RmwReg) (u : State) :
    latchRead (rmwRead r) u = u.setFg { u.fg with v := BitVec.ofNat 32 u.rdata } := by
  cases r <;> rfl

theorem latchRead_rmwWrite (r : RmwReg) (data : Word) (u : State) : latchRead (rmwWrite data r) u = u := by
  cases r <;> rfl

/-- The state between the two accesses of a read-modify-write of a control register that held `v` (R110). -/
def afterCsrRead (c : Csr) (v : Word) (s : State) : State := (s.csrRead c v.toNat).setFg { todo := [], v := v }

@[simp] theorem afterCsrRead_params (c : Csr) (v : Word) (s : State) : (afterCsrRead c v s).params = s.params := rfl
@[simp] theorem afterCsrRead_core (c : Csr) (v : Word) (s : State) : (afterCsrRead c v s).core = s.core := rfl
@[simp] theorem afterCsrRead_plic (c : Csr) (v : Word) (s : State) : (afterCsrRead c v s).plic = s.plic := rfl
@[simp] theorem afterCsrRead_uart (c : Csr) (v : Word) (s : State) : (afterCsrRead c v s).uart = s.uart := rfl
@[simp] theorem afterCsrRead_fg (c : Csr) (v : Word) (s : State) :
    (afterCsrRead c v s).fg = { todo := [], v := v } := rfl
@[simp] theorem afterCsrRead_trace (c : Csr) (v : Word) (s : State) :
    (afterCsrRead c v s).trace = s.trace ++ [.csrRead (s.params.csr.num c) v.toNat] := rfl

/-- `W r <- v OR bits` after the read of `v`, at the head of the queue of a free foreground: two steps of SEQ, and the
rest of the queue is kept (R67, R110). -/
theorem seqRun_csrSetBits (h : Ready s) {r : RmwReg} {c : Csr} {v bits : Word} {core : CoreState} (rest : List Micro)
    (hread : ∀ l, exec (rmwRead r) (s.start l) = .next ((s.start l).csrRead c v.toNat))
    (hwrite : ∀ l, exec (rmwWrite (v ||| bits) r) ((afterCsrRead c v s).start l) =
      .next (csrWritten c (v ||| bits) core ((afterCsrRead c v s).start l))) :
    seqRun 2 (s.start (.op (rmwRead r) :: .writeOr r bits :: rest)) =
      .next ((csrWritten c (v ||| bits) core (afterCsrRead c v s)).start rest) := by
  have hready : Ready (afterCsrRead c v s) := by
    obtain ⟨hrun, hidle, -⟩ := h
    exact ⟨hrun, hidle, rfl⟩
  have hfirst : seqStep (s.start (.op (rmwRead r) :: .writeOr r bits :: rest)) =
      .next ((afterCsrRead c v s).start (.writeOr r bits :: rest)) := by
    rw [seqStep_start_cons h _ rfl, hread, andThen, latchRead_rmwRead, State.csrRead_rdata, BitVec.ofNat_toNat,
      BitVec.setWidth_eq]
    rfl
  have hsecond : seqStep ((afterCsrRead c v s).start (.writeOr r bits :: rest)) =
      .next ((csrWritten c (v ||| bits) core (afterCsrRead c v s)).start rest) := by
    rw [seqStep_start_cons (i := rmwWrite (v ||| bits) r) hready _ rfl, hwrite, andThen, latchRead_rmwWrite]
    rfl
  rw [seqRun_succ hfirst, seqRun_succ hsecond, seqRun]

/-- The state after bits were set in the status register, and after bits were set in the interrupt-enable register. -/
def statusBitsSet (bits : Word) (s : State) : State :=
  csrWritten .status (s.core.status ||| bits) { s.core with status := s.core.status ||| bits }
    (afterCsrRead .status s.core.status s)

def enableBitsSet (bits : Word) (s : State) : State :=
  csrWritten .ie (s.core.ie ||| bits) { s.core with ie := s.core.ie ||| bits } (afterCsrRead .ie s.core.ie s)

theorem seqRun_statusBitsSet (h : Ready s) {bits : Word} (hbits : bits &&& statusMask = bits) (rest : List Micro) :
    seqRun 2 (s.start (.op .csrStatusR :: .writeOr .status bits :: rest)) =
      .next ((statusBitsSet bits s).start rest) := by
  have ⟨hrun, _, _⟩ := h
  exact seqRun_csrSetBits (r := .status) h rest (fun l => exec_csrStatusR (s := s.start l) hrun)
    fun l => exec_csrStatusW_or (s := (afterCsrRead .status s.core.status s).start l) hrun hbits

theorem seqRun_enableBitsSet (h : Ready s) {bits : Word} (hbits : bits &&& ieMask = bits) (rest : List Micro) :
    seqRun 2 (s.start (.op .csrIeR :: .writeOr .ie bits :: rest)) = .next ((enableBitsSet bits s).start rest) := by
  have ⟨hrun, _, _⟩ := h
  exact seqRun_csrSetBits (r := .ie) h rest (fun l => exec_csrIeR (s := s.start l) hrun)
    fun l => exec_csrIeW_or (s := (afterCsrRead .ie s.core.ie s).start l) hrun hbits

/-! ## The installer -/

theorem requestStep_installVector (h : Ready s) (hmie : s.core.mie = false) :
    requestStep .installVector s =
      .next (s.start
        [.op (.csrTvecW s.params.handlerEntry), .setSp, .op .csrStatusR, .writeOr .status 0x8#32, .op .csrIeR,
          .writeOr .ie 0x800#32]) := by
  simp only [requestStep, requestStep_guard_of_ready h, hmie, Bool.false_eq_true, if_false]

theorem handlerEntry_aligned {p : Params} (h : p.wf = true) : p.handlerEntry.toNat % 4 = 0 := by
  simp only [Params.wf, Bool.and_eq_true, beq_iff_eq] at h
  exact h.2

theorem csr_wf_of_wf {p : Params} (h : p.wf = true) : p.csr.wf = true := by
  simp only [Params.wf, Bool.and_eq_true] at h
  obtain ⟨⟨⟨⟨⟨⟨⟨-, hcsr⟩, -⟩, -⟩, -⟩, -⟩, -⟩, -⟩ := h
  exact hcsr

/-- The state after the first two steps of the installer, the vector and the stack pointer (R271, R272). -/
def vectorAndStackSet (s : State) : State :=
  (vectorWritten s.params.handlerEntry s).setCore
    { s.core with tvec := s.params.handlerEntry, tvecInstalled := true, sp := s.params.stackTop }

theorem seqRun_vectorAndStackSet (h : Ready s) (hentry : s.params.handlerEntry.toNat % 4 = 0) (rest : List Micro) :
    seqRun 2 (s.start (.op (.csrTvecW s.params.handlerEntry) :: .setSp :: rest)) =
      .next ((vectorAndStackSet s).start rest) := by
  have ⟨hrun, hidle, _⟩ := h
  have hvector : seqStep (s.start (.op (.csrTvecW s.params.handlerEntry) :: .setSp :: rest)) =
      .next ((vectorWritten s.params.handlerEntry s).start (.setSp :: rest)) := by
    rw [seqStep_start_cons h _ rfl, exec_csrTvecW_of_aligned (s := s.start (.setSp :: rest)) hrun hentry]
    rfl
  have hstack : seqStep ((vectorWritten s.params.handlerEntry s).start (.setSp :: rest)) =
      .next ((vectorAndStackSet s).start rest) := seqStep_idle hrun hidle
  rw [seqRun_succ hvector, seqRun_succ hstack, seqRun]

/-- The state after the last four steps of the installer, MIE and then MEIE (R273, R274). -/
def enablesSet (s : State) : State := enableBitsSet 0x800#32 (statusBitsSet 0x8#32 s)

@[simp] theorem enablesSet_core (s : State) :
    (enablesSet s).core = { s.core with status := s.core.status ||| 0x8#32, ie := s.core.ie ||| 0x800#32 } := by
  simp [enablesSet, enableBitsSet, statusBitsSet]

@[simp] theorem enablesSet_trace (s : State) :
    (enablesSet s).trace = s.trace ++
      [.csrRead s.params.csr.status s.core.status.toNat, .csrWrite s.params.csr.status (s.core.status ||| 0x8#32),
        .csrRead s.params.csr.ie s.core.ie.toNat, .csrWrite s.params.csr.ie (s.core.ie ||| 0x800#32)] := by
  simp [enablesSet, enableBitsSet, statusBitsSet, CsrMap.num]

theorem enablesSet_rest (s : State) :
    (enablesSet s).plic = s.plic ∧ (enablesSet s).uart = s.uart ∧ (enablesSet s).fg.todo = [] := by
  simp [enablesSet, enableBitsSet, statusBitsSet]

theorem enablesSet_mie (s : State) : (enablesSet s).core.mie = true := by simp [CoreState.mie]

theorem enablesSet_meie (s : State) : (enablesSet s).core.meie = true := by simp [CoreState.meie]

theorem seqRun_enablesSet (h : Ready s) :
    seqRun 4 (s.start [.op .csrStatusR, .writeOr .status 0x8#32, .op .csrIeR, .writeOr .ie 0x800#32]) =
      .next (enablesSet s) := by
  have hready : Ready (statusBitsSet 0x8#32 s) := by
    obtain ⟨hrun, hidle, -⟩ := h
    exact ⟨hrun, hidle, rfl⟩
  rw [seqRun_add (seqRun_statusBitsSet h (by decide) _) 2, seqRun_enableBitsSet hready (by decide)]
  rfl

end Operations

end Sys2Proof.Machine

namespace Sys2Proof.Safety

open Sys2Proof.Machine

/-! ## Boot order on the trace -/

/-- A write of the trap vector sets no enable: the three control registers have different numbers (R95). -/
theorem setsEnable_tvec {p : Params} (h : p.csr.wf = true) (data : Word) :
    setsEnable p (.csrWrite p.csr.tvec data) = false := by
  have hdistinct : [p.csr.cause, p.csr.tvec, p.csr.status, p.csr.ie].Nodup := of_decide_eq_true h
  simp only [List.nodup_cons, List.mem_cons, not_or] at hdistinct
  simp [setsEnable, hdistinct]

/-- A trace in boot order stays one when a vector write is appended, whatever follows that write (R275). -/
theorem vectorFirst_append_vector {p : Params} {trace rest : List Access} {w : Access} (h : vectorFirst p trace)
    (hvector : writesVector p w = true) (hw : setsEnable p w = false) : vectorFirst p (trace ++ w :: rest) := by
  intro before a after hsplit ha
  have hne : a ≠ w := by
    rintro rfl
    simp [hw] at ha
  obtain ⟨l, rfl, hl⟩ | ⟨l, rfl, hl⟩ := List.append_eq_append_iff.1 hsplit
  case inl =>
    cases l with
    | nil => exact absurd (List.cons.inj hl).1.symm hne
    | cons b l =>
      obtain ⟨rfl, -⟩ := List.cons.inj hl
      exact ⟨w, by simp, hvector⟩
  case inr =>
    cases l with
    | nil => exact absurd (List.cons.inj hl).1 hne
    | cons b l =>
      obtain ⟨rfl, -⟩ := List.cons.inj hl
      exact h before a l rfl ha

/-! ## The installed vector -/

/-- A step that writes no trap vector but the entry address `s.params.handlerEntry`, and queues no write of another one
(R271, R281). -/
structure KeepsVector (s t : State) : Prop where
  params : t.params = s.params
  todo : ∀ m ∈ t.fg.todo, microKeepsVector s.params m
  vector : (t.core.tvec = s.core.tvec ∧ t.core.tvecInstalled = s.core.tvecInstalled) ∨
    (t.core.tvec = s.params.handlerEntry ∧ t.core.tvecInstalled = true)

section Vector

variable {s t : State}

/-- Such a step keeps the property of the installed vector, and a vector that is installed. -/
theorem KeepsVector.vectorOk (h : KeepsVector s t) (hs : VectorOk s) :
    VectorOk t ∧ (s.core.tvecInstalled = true → t.core.tvecInstalled = true ∧ t.core.tvec = s.core.tvec) := by
  obtain ⟨hparams, htodo, hvector⟩ := h
  obtain ⟨hentry, -⟩ := hs
  rw [VectorOk, hparams]
  obtain ⟨htvec, hinst⟩ | ⟨htvec, hinst⟩ := hvector
  · rw [htvec, hinst]
    exact ⟨⟨hentry, htodo⟩, fun h => ⟨h, rfl⟩⟩
  · rw [htvec]
    exact ⟨⟨fun _ => rfl, htodo⟩, fun h => ⟨hinst, (hentry h).symm⟩⟩

/-- A step that leaves the parameters, the trap vector and the queue. -/
theorem VectorOk.keepsVector_of_same (h : VectorOk s) (hparams : t.params = s.params) (hfg : t.fg.todo = s.fg.todo)
    (htvec : t.core.tvec = s.core.tvec) (hinst : t.core.tvecInstalled = s.core.tvecInstalled) : KeepsVector s t := by
  obtain ⟨-, hqueue⟩ := h
  exact ⟨hparams, hfg ▸ hqueue, .inl ⟨htvec, hinst⟩⟩

/-- The accesses of a read-modify-write are no write of the trap vector (R110). -/
theorem rmwRead_ne_csrTvecW (r : RmwReg) (data : Word) : rmwRead r ≠ .csrTvecW data := by
  cases r <;> exact nofun

theorem rmwWrite_ne_csrTvecW (r : RmwReg) (w data : Word) : rmwWrite w r ≠ .csrTvecW data := by
  cases r <;> exact nofun

/-- A micro-operation that keeps the vector stands for no write of another one (R110). -/
theorem microInstr_eq_csrTvecW {m : Micro} (h : microKeepsVector s.params m) {data : Word}
    (hm : microInstr s m = some (.ok (.csrTvecW data))) : data = s.params.handlerEntry := by
  cases m with
  | raw t => exact h data (Option.some.inj hm)
  | op i => exact h data (Except.ok.inj (Option.some.inj hm))
  | writeOr r mask | writeAndNot r mask =>
    exact absurd (Except.ok.inj (Option.some.inj hm)) (rmwWrite_ne_csrTvecW r _ data)
  | setSp => cases hm

/-- Of the operations only the write of the trap vector changes it (R271). -/
theorem vector_accessEffect {i : Instr} (he : AccessEffect s i t) :
    (t.core.tvec = s.core.tvec ∧ t.core.tvecInstalled = s.core.tvecInstalled) ∨
      (i = .csrTvecW t.core.tvec ∧ t.core.tvecInstalled = true) := by
  cases he with
  | vector data aligned => exact .inr ⟨rfl, rfl⟩
  | txdata data => simp [pushByte_rest]
  | read | write | plicConfig | claim | complete | uartConfig | status | enables => exact .inl ⟨rfl, rfl⟩

/-- The micro-operations that a request starts keep the vector: the installer writes the entry address, and a raw
transaction is asked to (R270, R271). -/
theorem requestStep_todo {r : Request} (hk : keepsVector s.params (.request r)) (hs : VectorOk s)
    (h : requestStep r s = .next t) : ∀ m ∈ t.fg.todo, microKeepsVector s.params m := by
  obtain ⟨-, hqueue⟩ := hs
  unfold requestStep at h
  split at h
  next => cases h; exact hqueue
  next =>
    cases r with
    | raw x =>
      cases h
      intro m hm
      obtain rfl := List.mem_singleton.1 hm
      exact hk
    | claim | complete | enableTxwm => cases h; simp [microKeepsVector]
    | disableSource a =>
      cases a with
      | all => cases h; simp [microKeepsVector]
      | number | named =>
        obtain ⟨src, -, hsrc⟩ := withSource_next h
        cases hsrc
        simp [microKeepsVector, rmwRead_ne_csrTvecW]
    | enableSource a =>
      obtain ⟨src, -, hsrc⟩ := withSource_next h
      cases hsrc
      simp [microKeepsVector, rmwRead_ne_csrTvecW]
    | setPriority a level =>
      obtain ⟨src, -, hsrc⟩ := withSource_next h
      split at hsrc <;> cases hsrc
      · exact hqueue
      · simp [microKeepsVector]
    | setThreshold level =>
      dsimp only at h
      split at h <;> cases h
      · exact hqueue
      · simp [microKeepsVector]
    | installVector =>
      dsimp only at h
      split at h <;> cases h
      · exact hqueue
      · simp [microKeepsVector]

/-- A request writes no control register itself (R67). -/
theorem VectorOk.requestStep (hs : VectorOk s) {r : Request} (hk : keepsVector s.params (.request r))
    (h : requestStep r s = .next t) : KeepsVector s t := by
  have htodo := requestStep_todo hk hs h
  obtain rfl | ⟨-, -, -, ⟨l, rfl⟩ | ⟨reason, rfl⟩⟩ := requestStep_next_cases h <;>
    exact ⟨rfl, htodo, .inl ⟨rfl, rfl⟩⟩

/-- A step of SEQ writes the trap vector only as the next micro-operation of the foreground (R110, R356). -/
theorem VectorOk.seqEffect (hs : VectorOk s) (he : SeqEffect s t) : KeepsVector s t := by
  have ⟨_, hqueue⟩ := hs
  cases he with
  | stackPointer rest idle todo =>
    exact ⟨rfl, fun m hm => hqueue m (todo ▸ List.mem_cons_of_mem _ hm), .inl ⟨rfl, rfl⟩⟩
  | foreground m rest i v u idle todo instr access =>
    obtain ⟨-, -, hparams, hfg⟩ := Proofs.outsideKept_accessEffect access
    refine ⟨hparams, fun m' hm' => hqueue m' ?_, ?_⟩
    · change m' ∈ u.fg.todo at hm'
      rw [hfg] at hm'
      exact todo ▸ List.mem_cons_of_mem _ hm'
    · refine (vector_accessEffect access).imp_right fun ⟨hi, hinst⟩ => ⟨?_, hinst⟩
      exact microInstr_eq_csrTvecW (hqueue m (todo ▸ List.mem_cons_self)) (hi ▸ instr)
  | decode _ phase effect => cases effect <;> exact hs.keepsVector_of_same rfl rfl rfl rfl
  | readIp phase =>
    obtain ⟨ipq, bn, bi, ph, ht⟩ := afterReadIp_eq_setSeq (s.memRead .uartIp _)
    rw [ht]
    exact hs.keepsVector_of_same rfl rfl rfl rfl
  | push b phase more byte =>
    obtain ⟨hparams, hcore, -, -, -, hfg⟩ := pushByte_rest s b
    exact hs.keepsVector_of_same hparams (congrArg _ hfg) (congrArg _ hcore) (congrArg _ hcore)
  | stays | claim | finish | rxCount | complete | ret => exact hs.keepsVector_of_same rfl rfl rfl rfl

/-- Outside reset, an event keeps the vector where it is no raw request to write another one (R281). -/
theorem VectorOk.agentStep (hs : VectorOk s) {e : Event} (hk : keepsVector s.params e)
    (hreset : ∀ u : PowerOn, e ≠ .reset u) (h : agentStep e s = .next t) : KeepsVector s t := by
  cases agentStep_effect h with
  | seq _ running effect => exact hs.seqEffect effect
  | command | badLevel => exact hs.requestStep hk h
  | reset u => exact absurd rfl (hreset u)
  | stays | latch | send | line | rxwm | nested | entry | corePc => exact hs.keepsVector_of_same rfl rfl rfl rfl

/-! ## The way out of the handler -/

theorem phase_afterClaim_ne_idle (s : State) : (afterClaim s).seq.phase ≠ .idle := by
  simp only [afterClaim, State.setSeq_seq]
  split_ifs <;> exact nofun

theorem phase_afterReadIp_ne_idle (s : State) : (afterReadIp s).seq.phase ≠ .idle := by
  unfold afterReadIp
  split_ifs <;> exact nofun

/-- A step of SEQ leads from the handler to the foreground in phase RETURN only (R159, R304). -/
theorem ret_of_seqEffect_to_idle (hphase : s.seq.phase ≠ .idle) (he : SeqEffect s t) (ht : t.seq.phase = .idle) :
    s.seq.phase = .ret ∧ t.core.pc = s.core.epc := by
  cases he with
  | ret phase => exact ⟨phase, rfl⟩
  | stays => exact absurd ht hphase
  | stackPointer _ idle | foreground _ _ _ _ _ idle => exact absurd idle hphase
  | decode _ phase effect =>
    cases effect with
    | halt r => exact absurd ht hphase
    | ret | claim => cases ht
  | claim phase => exact absurd ht (phase_afterClaim_ne_idle _)
  | readIp phase => exact absurd ht (phase_afterReadIp_ne_idle _)
  | push b phase more byte =>
    change (pushed b s).seq.phase = .idle at ht
    rw [pushed_seq] at ht
    exact absurd ht hphase
  | finish | rxCount | complete => cases ht

end Vector

end Sys2Proof.Safety
end

section
/-! The statements of the trap-vector family: the control registers, the installer, and the installed vector. -/

namespace Sys2Proof.Proofs

open Sys2Proof.Machine Sys2Proof.Safety Sys2Proof.Claims

/-! ## The control registers -/

/-- Settles O20. -/
theorem controlRegisterReadsReturnTheWord : Obligations.ControlRegisterReadsReturnTheWord := fun _ hrun =>
  ⟨exec_csrCauseR hrun, exec_csrStatusR hrun, exec_csrIeR hrun⟩

/-- Settles O21. -/
theorem vectorWriteInstallsAlignedEntry : Obligations.VectorWriteInstallsAlignedEntry := fun _ _ hrun =>
  ⟨exec_csrTvecW_of_aligned hrun, exec_csrTvecW_of_misaligned⟩

/-- Settles O22: the word stored is the merge of the word written with the core's own bits. -/
theorem controlRegisterWritesSetTheirFields : Obligations.ControlRegisterWritesSetTheirFields := by
  refine fun s data hrun =>
    ⟨⟨_, exec_csrStatusW hrun data, mergeCore_in _ _ _ _ 3 rfl, mergeCore_in _ _ _ _ 7 rfl, fun hkept => ?status⟩,
      ⟨_, exec_csrIeW hrun data, mergeCore_in _ _ _ _ 3 rfl, mergeCore_in _ _ _ _ 7 rfl, mergeCore_in _ _ _ _ 11 rfl,
        fun hkept => ?enables⟩⟩
  case status =>
    refine mergeCore_of_bits _ fun b hb => ?_
    obtain ⟨hmie, hmpie⟩ := ne_of_not_statusMask hb
    exact hkept b hmie hmpie
  case enables =>
    refine mergeCore_of_bits _ fun b hb => ?_
    obtain ⟨hmsie, hmtie, hmeie⟩ := ne_of_not_ieMask hb
    exact hkept b hmsie hmtie hmeie

/-! ## The installer -/

/-- Settles O40: two steps for the vector and the stack pointer, then four for the two enables; the vector write stands
in the trace before both enabling writes. -/
theorem installVectorRunsInOrder : Obligations.InstallVectorRunsInOrder := by
  intro s hready hwf hmie
  have ⟨hrun, hidle, hfree⟩ := hready
  have hready' : Ready (vectorAndStackSet s) := ⟨hrun, hidle, hfree⟩
  obtain ⟨hplic, huart, htodo⟩ := enablesSet_rest (vectorAndStackSet s)
  have htrace : (enablesSet (vectorAndStackSet s)).trace = s.trace ++
      [.csrWrite s.params.csr.tvec s.params.handlerEntry, .csrRead s.params.csr.status s.core.status.toNat,
        .csrWrite s.params.csr.status (s.core.status ||| 0x8#32), .csrRead s.params.csr.ie s.core.ie.toNat,
        .csrWrite s.params.csr.ie (s.core.ie ||| 0x800#32)] := by
    simp [vectorAndStackSet, vectorWritten, CsrMap.num]
  refine ⟨_, _, _, requestStep_installVector hready hmie,
    seqRun_vectorAndStackSet hready (handlerEntry_aligned hwf) _, seqRun_enablesSet hready', rfl, enablesSet_core _,
    htrace, enablesSet_mie _, enablesSet_meie _, hplic, huart, htodo, fun horder => ?_⟩
  rw [htrace]
  exact vectorFirst_append_vector horder (by simp [writesVector]) (setsEnable_tvec (csr_wf_of_wf hwf) _)

/-! ## The installed vector -/

/-- Settles O60: a step that keeps the vector keeps `VectorOk`; and in the handler only a step of SEQ changes the phase,
reset apart. -/
theorem installedVectorStays : Obligations.InstalledVectorStays := by
  refine ⟨fun s t e hs hk hreset hstep => (hs.agentStep hk hreset hstep).vectorOk hs,
    fun p u => ⟨nofun, List.forall_mem_nil _⟩, fun s t e hphase hreset hstep ht => ?_⟩
  cases agentStep_effect hstep with
  | seq _ running effect =>
    obtain ⟨hret, hpc⟩ := ret_of_seqEffect_to_idle hphase effect ht
    exact ⟨rfl, running, hret, hpc⟩
  | reset u => exact absurd rfl (hreset u)
  | entry => cases ht
  | stays | command | badLevel | latch | send | line | rxwm | nested | corePc => exact absurd ht hphase

end Sys2Proof.Proofs
end

section
/-! The delivery of a trap, one equation per case (R302), the admission table against the bits of the enable registers,
the status word after a trap entry (R299), and the core's registers in the handler (R305). -/

namespace Sys2Proof.Machine

/-! ## The admission table -/

/-- The code of a TrapCause is `n` when the cause word ends in `n` (R92). -/
theorem trapCauseOf_code_eq_iff (p : Params) (w : CauseWord) {n : Nat} (hn : n < 16) :
    (trapCauseOf p w).code = BitVec.ofNat 4 n ↔ w % 16 = n := by
  rw [trapCauseOf, ← BitVec.toNat_inj, BitVec.toNat_ofNat, BitVec.toNat_ofNat, Nat.mod_eq_of_lt hn]

/-- An exception needs no enable (R302). -/
theorem admitted_of_exception {p : Params} {w : CauseWord} (h : w.testBit (p.xlen - 1) = false) (c : CoreState) :
    admitted p c w = true := by
  simp [admitted, trapCauseOf, h]

/-- An interrupt needs MIE, and its own enable where it has one (R302). -/
theorem admitted_of_interrupt {p : Params} {w : CauseWord} (h : w.testBit (p.xlen - 1) = true) (c : CoreState) :
    admitted p c w = true ↔
      c.mie = true ∧ (w % 16 = 11 → c.meie = true) ∧ (w % 16 = 3 → c.msie = true) ∧ (w % 16 = 7 → c.mtie = true) := by
  have hflag : (trapCauseOf p w).isInterrupt = true := h
  simp only [admitted, hflag, if_true, Bool.and_eq_true, trapCauseOf_code_eq_iff p w (show 11 < 16 by omega),
    trapCauseOf_code_eq_iff p w (show 3 < 16 by omega), trapCauseOf_code_eq_iff p w (show 7 < 16 by omega)]
  split_ifs <;> simp [*]

/-! ## The delivery of a trap -/

section Delivery

variable {s : State} {w : CauseWord}

theorem deliverTrap_of_ignored (h : s.seq.halted = true ∨ admitted s.params s.core w = false) :
    deliverTrap w s = .next s := by
  rw [deliverTrap, if_pos (by simpa using h)]

variable (hrun : s.seq.halted = false) (hadm : admitted s.params s.core w = true)
include hrun hadm

theorem deliverTrap_of_handler (hphase : s.seq.phase ≠ .idle) :
    deliverTrap w s = .next (s.setSeq { s.seq with nestedTrap := true }) := by
  rw [deliverTrap, if_neg (by simp [hrun, hadm]), if_pos hphase]

theorem deliverTrap_of_installed (hidle : s.seq.phase = .idle) (hv : s.core.tvecInstalled = true) :
    deliverTrap w s = .next (s.trapEntry (s.params.causeBits w)) := by
  rw [deliverTrap, if_neg (by simp [hrun, hadm]), if_neg (not_not.2 hidle), if_pos hv]

theorem deliverTrap_of_uninstalled (hidle : s.seq.phase = .idle) (hv : s.core.tvecInstalled = false) :
    deliverTrap w s = .fault .uninstalledVector := by
  rw [deliverTrap, if_neg (by simp [hrun, hadm]), if_neg (not_not.2 hidle), if_neg (by simp [hv])]

end Delivery

/-! ## The trap entry -/

/-- The entry saves MIE in MPIE (R299). -/
theorem trapEntry_mpie (s : State) (w : CauseWord) : (s.trapEntry w).core.mpie = s.core.mie := by
  rw [CoreState.mpie, State.trapEntry_core, withBit_getLsbD_of_ne _ _ (by omega), withBit_getLsbD _ _ _ _ (by omega),
    if_pos rfl]

/-- The entry leaves every other status bit (R299). -/
theorem trapEntry_status_of_ne (s : State) (w : CauseWord) {b : Nat} (hmie : b ≠ 3) (hmpie : b ≠ 7) :
    (s.trapEntry w).core.status.getLsbD b = s.core.status.getLsbD b := by
  rw [State.trapEntry_core, withBit_getLsbD_of_ne _ _ hmie, withBit_getLsbD_of_ne _ _ hmpie]

/-! ## The core in the handler -/

section Handler

variable {s t : State}

/-- A step of SEQ that stays in the handler writes no register of the core: of the handler's steps only the return does
(R159, R304). -/
theorem core_of_seqEffect_handler (hs : s.seq.phase ≠ .idle) (ht : t.seq.phase ≠ .idle) (he : SeqEffect s t) :
    t.core = s.core := by
  cases he with
  | stackPointer _ idle | foreground _ _ _ _ _ idle => exact absurd idle hs
  | decode _ phase effect => cases effect <;> rfl
  | readIp phase =>
    obtain ⟨ipq, bn, bi, ph, hread⟩ := afterReadIp_eq_setSeq (s.memRead .uartIp _)
    rw [hread]
    rfl
  | push b => exact pushed_core b s
  | ret => exact absurd rfl ht
  | stays | claim | finish | rxCount | complete => rfl

/-- Nor does any event that stays in the handler: the entry and the core's own progress need the foreground, and reset
leads to it (R23, R302, R340). -/
theorem core_of_eventEffect_handler {e : Event} (hs : s.seq.phase ≠ .idle) (ht : t.seq.phase ≠ .idle)
    (he : EventEffect s e t) : t.core = s.core := by
  cases he with
  | seq _ running effect => exact core_of_seqEffect_handler hs ht effect
  | entry _ _ idle | corePc _ _ idle => exact absurd idle hs
  | reset u => exact absurd rfl ht
  | stays | command | badLevel | latch | send | line | rxwm | nested => rfl

end Handler

end Sys2Proof.Machine
end

section
/-! The statements of the exceptions family: the admission of a cause word, the trap entry, the nested trap, and MIE in
the handler. -/

namespace Sys2Proof.Proofs

open Sys2Proof.Machine Sys2Proof.Safety Sys2Proof.Claims

/-- Settles O24: by the async flag of the word; a word not admitted is ignored in every phase. -/
theorem trapAdmissionFollowsTheTable : Obligations.TrapAdmissionFollowsTheTable := by
  refine fun w s => ⟨?_, deliverTrap_of_ignored⟩
  cases hflag : w.testBit (s.params.xlen - 1) with
  | false => exact iff_of_true (admitted_of_exception hflag s.core) (.inl rfl)
  | true => exact (admitted_of_interrupt hflag s.core).trans ⟨.inr, fun h => h.resolve_left nofun⟩

/-- Settles O56: a step that stays in the handler writes no register of the core. -/
theorem handlerNeverReenablesInterrupts : Obligations.HandlerNeverReenablesInterrupts := fun _ _ _ hs ht hstep =>
  congrArg CoreState.mie (core_of_eventEffect_handler hs ht (agentStep_effect hstep))

/-- Settles O23: a word of XLEN bits is the cause as it stands. -/
theorem trapEntrySavesAndMasks : Obligations.TrapEntrySavesAndMasks := by
  intro w s hw hrun hidle hadm
  refine ⟨fun hv => ?_, deliverTrap_of_uninstalled hrun hadm hidle⟩
  have hentry : deliverTrap w s = .next (s.trapEntry w) := by
    rw [deliverTrap_of_installed hrun hadm hidle hv, causeBits_of_lt hw]
  exact ⟨_, hentry, mie_trapEntry s w, trapEntry_mpie s w, fun _ => trapEntry_status_of_ne s w⟩

/-- Settles O25: an admitted word outside phase IDLE is the nested case of the delivery. -/
theorem admittedTrapInHandlerIsNested : Obligations.AdmittedTrapInHandlerIsNested := fun _ _ hrun hphase hadm =>
  deliverTrap_of_handler hrun hadm hphase

end Sys2Proof.Proofs
end

section
/-! The hazard of the interrupt handler (R356): what a step of SEQ outside the foreground leaves of the registers that the
commands modify. -/

namespace Sys2Proof.Machine

open Sys2Proof.Safety

section HandlerFrame

variable {s t : State}

/-- The PLIC's settings, the UART's settings and the foreground's place are those of the state before. Of the UART only
the two byte queues may differ. -/
structure SettingsKept (s t : State) : Prop where
  ie : t.plic.ie = s.plic.ie
  prio : t.plic.prio = s.plic.prio
  thr : t.plic.thr = s.plic.thr
  uart : t.uart = { s.uart with txfifo := t.uart.txfifo, txdOut := t.uart.txdOut }
  fg : t.fg = s.fg

/-- A step that leaves the PLIC, the UART and the foreground keeps their settings. -/
theorem SettingsKept.of_same (hplic : t.plic = s.plic) (huart : t.uart = s.uart) (hfg : t.fg = s.fg) :
    SettingsKept s t := by
  refine ⟨?_, ?_, ?_, ?_, hfg⟩ <;> simp only [hplic, huart]

/-- A push changes the byte queue only, with room and without (R233, R238). -/
theorem settingsKept_pushed (b : Byte) (s : State) : SettingsKept s (pushed b s) := by
  obtain hroom | hfull := Nat.lt_or_ge s.uart.txfifo.length s.params.txDepth
  · rw [pushed_of_room hroom]
    exact ⟨rfl, rfl, rfl, rfl, rfl⟩
  · rw [pushed_of_full hfull]
    exact .of_same rfl rfl rfl

/-- Of the handler's steps the claim and the complete write the PLIC, its pending and in-service sets, and the push writes
the UART, its byte queue (R154, R157, R245). -/
theorem settingsKept_seqEffect_handler (hs : s.seq.phase ≠ .idle) (he : SeqEffect s t) : SettingsKept s t := by
  cases he with
  | stackPointer _ idle | foreground _ _ _ _ _ idle => exact absurd idle hs
  | decode _ phase effect => cases effect <;> exact .of_same rfl rfl rfl
  | claim =>
    obtain ⟨hprio, hie, hthr⟩ := claimWinner_rest s.plic
    exact ⟨hie, hprio, hthr, rfl, rfl⟩
  | complete =>
    obtain ⟨hprio, -, hie, hthr⟩ := completeId_rest s.plic s.seq.claimedId.toNat
    exact ⟨hie, hprio, hthr, rfl, rfl⟩
  | readIp =>
    obtain ⟨ipq, bn, bi, ph, hread⟩ := afterReadIp_eq_setSeq (s.memRead .uartIp _)
    rw [hread]
    exact .of_same rfl rfl rfl
  | push b => exact settingsKept_pushed b s
  | stays | finish | rxCount | ret => exact .of_same rfl rfl rfl

theorem settingsKept_seqStep_handler (hs : s.seq.phase ≠ .idle) (h : seqStep s = .next t) : SettingsKept s t := by
  obtain ⟨-, rfl⟩ | ⟨-, he⟩ := seqStep_next_cases h
  · exact .of_same rfl rfl rfl
  · exact settingsKept_seqEffect_handler hs he

/-- The one step of the handler that writes the core is the trap return (R159, R304). -/
theorem core_of_seqStep_handler (hs : s.seq.phase ≠ .idle) (h : seqStep s = .next t) :
    t.core = s.core ∨ s.seq.phase = .ret ∧ t.core = s.trapReturn.core := by
  obtain ⟨-, rfl⟩ | ⟨hrun, he⟩ := seqStep_next_cases h
  · exact .inl rfl
  by_cases hret : s.seq.phase = .ret
  · rw [seqStep_ret hrun hret] at h
    cases h
    exact .inr ⟨hret, rfl⟩
  · have ht : t.seq.phase ≠ .idle := fun ht => hret (ret_of_seqEffect_to_idle hs he ht).1
    exact .inl (core_of_seqEffect_handler hs ht he)

end HandlerFrame

end Sys2Proof.Machine
end

section
/-! The statement of the hazards family. -/

namespace Sys2Proof.Proofs

open Sys2Proof.Machine

/-- Settles O57: the settings outside the core are kept by every step of the handler, and the core is written by the trap
return only, which leaves all but MIE and MPIE and the program counter. -/
theorem handlerKeepsCommandRegisters : Obligations.HandlerKeepsCommandRegisters := by
  intro s t hs hstep
  obtain ⟨hie, hprio, hthr, huart, hfg⟩ := settingsKept_seqStep_handler hs hstep
  rw [huart]
  obtain hcore | ⟨hret, hcore⟩ := core_of_seqStep_handler hs hstep <;> rw [hcore]
  · exact ⟨hie, hprio, hthr, rfl, rfl, rfl, rfl, fun _ _ _ => rfl, fun _ => rfl, rfl, rfl, rfl, rfl, rfl, hfg⟩
  · exact ⟨hie, hprio, hthr, rfl, rfl, rfl, rfl, fun _ => trapReturn_status_of_ne s, fun hne => absurd hret hne,
      rfl, rfl, rfl, rfl, rfl, hfg⟩

end Sys2Proof.Proofs
end
